-- ==== Sys2Proof/Word.lean ====
section
/-!
DEFINITION. The word types of the engine. Every other helper (bit fields, sign extension, rounding) stands in
Machine/Operands.lean.
-/

namespace Sys2Proof

/-- A byte: one transfer on the wire, one byte of a bitmap, one byte of a frame-buffer plane (`u8` of R14). -/
abbrev Byte := BitVec 8

/-- A host register and a command word (`u32` of R14; R23, R82). -/
abbrev Word := BitVec 32

end Sys2Proof
end

