-- ==== Sys2Proof/Syntax.lean ====
section
/-!
DEFINITION. The host commands of EPPE-CMD v1: one constructor per row of spec/opcode_table.json (30_encoding.md R87),
carrying the fields its format names (R83). Operands that live in the ARG registers are not part of the command word.
-/

namespace Sys2Proof

/-- The colour field (R85). `reserved` is code 3, which the three colour commands refuse with BADCMD (R89). -/
inductive Color where
  | white | black | accent | reserved
deriving DecidableEq, Repr

/-- The rotation field, in quarter turns (R47, R84). -/
inductive Rotation where
  | r0 | r1 | r2 | r3
deriving DecidableEq, Repr

/-- The flags of the image commands (R86). -/
structure ImageFlags where
  /-- INVERT, bit 8. -/
  invert : Bool
  /-- MIRROR_Y, bit 9. -/
  mirrorY : Bool
  /-- PROG, bit 10: read SRC_PROG instead of SRC_DATA (R63). -/
  prog : Bool
  /-- HAS_ACCENT, bit 11: an accent bitmap stands at src1. -/
  hasAccent : Bool
deriving DecidableEq, Repr

/-- The thirteen commands (R87). -/
inductive Instr where
  /-- INIT, OP 0x01, format N (R250). -/
  | init
  /-- SET_ROTATION, OP 0x02, format T (R106). -/
  | setRotation (rot : Rotation) (mirror : Bool)
  /-- SET_FULL_WINDOW, OP 0x03, format N (R230). -/
  | setFullWindow
  /-- SET_PARTIAL_WINDOW, OP 0x04, format W (R236). -/
  | setPartialWindow
  /-- FILL, OP 0x10, format C (R122). -/
  | fill (color : Color)
  /-- SET_PIXEL, OP 0x11, format C (R129). -/
  | setPixel (color : Color)
  /-- SET_PIXEL_PHYS, OP 0x12, format C (R128). -/
  | setPixelPhys (color : Color)
  /-- BEGIN_FRAME, OP 0x20, format N (R148). -/
  | beginFrame
  /-- ADVANCE_PAGE, OP 0x21, format N (R153). -/
  | advancePage
  /-- POWER_OFF, OP 0x30, format N (R251). -/
  | powerOff
  /-- CLEAR_PANEL, OP 0x40, format P (R254). -/
  | clearPanel (bpat apat : Byte)
  /-- WRITE_IMAGE, OP 0x41, format I (R262). -/
  | writeImage (flags : ImageFlags)
  /-- DRAW_IMAGE, OP 0x42, format I (R266). -/
  | drawImage (flags : ImageFlags)
deriving DecidableEq, Repr

end Sys2Proof
end

