-- ==== Sys2Proof/WellFormed.lean ====
section
/-!
DEFINITION. Which commands use no reserved encoding. The only reserved field value of a defined command is colour
code 3 (R85, R89, R90); the decoder still delivers it, because the engine refuses it only after the NOINIT check (R285).
-/

namespace Sys2Proof

/-- The colour of a command of format C (R83). -/
def Instr.color? : Instr → Option Color
  | .fill c => some c
  | .setPixel c => some c
  | .setPixelPhys c => some c
  | .init => none
  | .setRotation _ _ => none
  | .setFullWindow => none
  | .setPartialWindow => none
  | .beginFrame => none
  | .advancePage => none
  | .powerOff => none
  | .clearPanel _ _ => none
  | .writeImage _ => none
  | .drawImage _ => none

/-- A command is well formed when it names no reserved code (R89, R90). -/
def Instr.wf (i : Instr) : Bool := i.color? != some .reserved

end Sys2Proof
end

