-- ==== Sys2Proof/Decode.lean ====
section
/-!
DEFINITION. The command word (30_encoding.md R82 to R89): the decoder, total on every word, and the encoder. A decoder
matches bits [7:0] against the OP column; the upper bits never change which command is selected (R87), and bits that the
command's format does not name are dropped (R83, R90).
-/

namespace Sys2Proof

/-- Why a word is no command: its OP is reserved (R88). -/
inductive DecodeError where
  /-- Bits [7:0] hold an OP value that R87 does not list. -/
  | reservedOpcode (op : Byte)
deriving DecidableEq, Repr

/-- Bits [7:0], the opcode OP (R82). -/
def opField (v : Word) : Byte := v.extractLsb' 0 8

/-- Colour code to colour (R85). -/
def colorOfBits (b : BitVec 2) : Color :=
  if b = 0#2 then .white else if b = 1#2 then .black else if b = 2#2 then .accent else .reserved

/-- Colour to colour code (R85). -/
def colorBits : Color → BitVec 2
  | .white => 0#2
  | .black => 1#2
  | .accent => 2#2
  | .reserved => 3#2

/-- ROT field to rotation (R84). -/
def rotationOfBits (b : BitVec 2) : Rotation :=
  if b = 0#2 then .r0 else if b = 1#2 then .r1 else if b = 2#2 then .r2 else .r3

/-- Rotation to ROT field (R84). -/
def rotationBits : Rotation → BitVec 2
  | .r0 => 0#2
  | .r1 => 1#2
  | .r2 => 2#2
  | .r3 => 3#2

/-- COLOR = CMD[9:8] (R85). -/
def colorField (v : Word) : Color := colorOfBits (v.extractLsb' 8 2)

/-- ROT = CMD[9:8] (R84). -/
def rotField (v : Word) : Rotation := rotationOfBits (v.extractLsb' 8 2)

/-- MIRROR = CMD[10] (R84). -/
def mirrorField (v : Word) : Bool := v.getLsbD 10

/-- BPAT = CMD[23:16] (R84). -/
def bpatField (v : Word) : Byte := v.extractLsb' 16 8

/-- APAT = CMD[31:24] (R84). -/
def apatField (v : Word) : Byte := v.extractLsb' 24 8

/-- INVERT = CMD[8], MIRROR_Y = CMD[9], PROG = CMD[10], HAS_ACCENT = CMD[11] (R86). -/
def imageFlagsField (v : Word) : ImageFlags :=
  { invert := v.getLsbD 8, mirrorY := v.getLsbD 9, prog := v.getLsbD 10, hasAccent := v.getLsbD 11 }

/-- The decoder: the opcode table of R87, and R88 for every other OP. -/
def decode (v : Word) : Except DecodeError Instr :=
  if opField v = 0x01#8 then .ok .init
  else if opField v = 0x02#8 then .ok (.setRotation (rotField v) (mirrorField v))
  else if opField v = 0x03#8 then .ok .setFullWindow
  else if opField v = 0x04#8 then .ok .setPartialWindow
  else if opField v = 0x10#8 then .ok (.fill (colorField v))
  else if opField v = 0x11#8 then .ok (.setPixel (colorField v))
  else if opField v = 0x12#8 then .ok (.setPixelPhys (colorField v))
  else if opField v = 0x20#8 then .ok .beginFrame
  else if opField v = 0x21#8 then .ok .advancePage
  else if opField v = 0x30#8 then .ok .powerOff
  else if opField v = 0x40#8 then .ok (.clearPanel (bpatField v) (apatField v))
  else if opField v = 0x41#8 then .ok (.writeImage (imageFlagsField v))
  else if opField v = 0x42#8 then .ok (.drawImage (imageFlagsField v))
  else .error (.reservedOpcode (opField v))

/-- The OP of each command (R87). -/
def Instr.opcode : Instr → Byte
  | .init => 0x01#8
  | .setRotation _ _ => 0x02#8
  | .setFullWindow => 0x03#8
  | .setPartialWindow => 0x04#8
  | .fill _ => 0x10#8
  | .setPixel _ => 0x11#8
  | .setPixelPhys _ => 0x12#8
  | .beginFrame => 0x20#8
  | .advancePage => 0x21#8
  | .powerOff => 0x30#8
  | .clearPanel _ _ => 0x40#8
  | .writeImage _ => 0x41#8
  | .drawImage _ => 0x42#8

/-- Bits [11:8] of an image command (R83, format I). -/
def imageFlagsBits (f : ImageFlags) : BitVec 4 :=
  BitVec.ofBool f.hasAccent ++ BitVec.ofBool f.prog ++ BitVec.ofBool f.mirrorY ++ BitVec.ofBool f.invert

/-- Bits [31:8] of each command, ignored bits written as 0 (R83, R92). -/
def Instr.fieldBits : Instr → BitVec 24
  | .init => 0#24
  | .setRotation r m => 0#21 ++ BitVec.ofBool m ++ rotationBits r
  | .setFullWindow => 0#24
  | .setPartialWindow => 0#24
  | .fill c => 0#22 ++ colorBits c
  | .setPixel c => 0#22 ++ colorBits c
  | .setPixelPhys c => 0#22 ++ colorBits c
  | .beginFrame => 0#24
  | .advancePage => 0#24
  | .powerOff => 0#24
  | .clearPanel b a => a ++ b ++ 0#8
  | .writeImage f => 0#20 ++ imageFlagsBits f
  | .drawImage f => 0#20 ++ imageFlagsBits f

/-- The encoder: the one word of a command (R82, R83, R92). -/
def encode (i : Instr) : Word := i.fieldBits ++ i.opcode

/-- The command that the table row's bits `w`, `nbits` of them, stand for: a command is exactly one 32-bit word (R82), and
the bits above `nbits` are 0. No byte order applies to a host register (R67), so the word is the number itself. -/
def decodeTableWord (nbits w : Nat) : Option Instr :=
  if nbits ≤ 32 then (decode (BitVec.ofNat 32 (w % 2 ^ nbits))).toOption else none

end Sys2Proof
end

