-- ==== Sys2Proof/Config.lean ====
section
/-!
DEFINITION. What an implementation fixes: the Panel Profile (00_scope.md R6 to R11), the engine constants (R10), and the free
values, constants without a body that no proof can evaluate. Which profiles are admitted (R12) and the derived constants
(R13) stand in Machine/Profile.lean.
-/

namespace Sys2Proof

/-- `ENC`: the data encoding of the profile (R7). -/
inductive Encoding where
  | plain | grey4 | nibble
deriving DecidableEq, Repr

/-- `STREAM`: where the window and write commands of a pass go (R7, R149). -/
inductive Stream where
  | perPage | continuous
deriving DecidableEq, Repr

/-- `WINENC`: the RAM-window encoding (R8). -/
inductive WinEncoding where
  | abs | entry | none
deriving DecidableEq, Repr

/-- `ACCENT_ON_MONO`: what the accent colour does on a one-plane profile (R7, R126). -/
inductive AccentOnMono where
  | black | white | ignore
deriving DecidableEq, Repr

/-- The full or the partial mode of an init, LUT upload or refresh (R9, R192, R193, R196). -/
inductive Mode where
  | full | partialMode
deriving DecidableEq, Repr

/-- A bit plane: 0 is black, 1 is accent (R19). -/
inductive Plane where
  | black | accent
deriving DecidableEq, Repr

/-- The two bitmap source spaces (R60, R63). -/
inductive Space where
  | data | prog
deriving DecidableEq, Repr

/-- A sequence item (R11). -/
inductive SeqItem where
  /-- `CMD(b)`: send the command byte b. -/
  | cmd (b : Byte)
  /-- `DATA(bs)`: send the data bytes as one burst. -/
  | data (bs : List Byte)
  /-- `WAIT_BUSY`: run the busy wait. -/
  | waitBusy
  /-- `DELAY(ms)`: sleep. -/
  | delay (ms : Nat)
  /-- `RESET_PULSE`: run the reset pulse. -/
  | resetPulse
  /-- `LUT(m)`: run the LUT upload of a mode. -/
  | lut (m : Mode)
deriving DecidableEq, Repr

/-- A LUT segment `(cmd, data)` (R9, R192). -/
structure LutSegment where
  cmd : Byte
  bytes : List Byte
deriving DecidableEq, Repr

/-- The Panel Profile (R3, R6 to R10). -/
structure Profile where
  /-- `W`, the physical width in pixels (R6). -/
  width : Nat
  /-- `H`, the physical height in pixels (R6). -/
  height : Nat
  /-- `PLANES` (R6). -/
  planes : Nat
  /-- `BPR`, bytes per row (R6). -/
  bpr : Nat
  /-- `CAP`, the frame-buffer capacity in bytes per plane (R6). -/
  cap : Nat
  /-- `ENC` (R7). -/
  enc : Encoding
  /-- `INV[0]` (R7). -/
  invBlack : Bool
  /-- `INV[1]` (R7). -/
  invAccent : Bool
  /-- `TWO_PASS` (R7). -/
  twoPass : Bool
  /-- `STREAM` (R7). -/
  stream : Stream
  /-- `GREY4_LUT[0..15]` (R7, R205). -/
  grey4Lut : Vector Byte 16
  /-- `NIB_BLACK`; each nibble code is below 16 by its type (R7, R12 (j)). -/
  nibBlack : BitVec 4
  /-- `NIB_ACCENT` (R7). -/
  nibAccent : BitVec 4
  /-- `NIB_WHITE` (R7). -/
  nibWhite : BitVec 4
  /-- `ACCENT_ON_MONO` (R7). -/
  accentOnMono : AccentOnMono
  /-- `PARTIAL_OK` (R8). -/
  partialOk : Bool
  /-- `WINENC` (R8). -/
  winEnc : WinEncoding
  /-- `CMD_WRITE[0]` (R8). -/
  cmdWriteBlack : Byte
  /-- `CMD_WRITE[1]` (R8). -/
  cmdWriteAccent : Byte
  /-- `CMD_WIN_ABS` (R8). -/
  cmdWinAbs : Byte
  /-- `ABS_SUFFIX` (R8). -/
  absSuffix : List Byte
  /-- `CMD_ENTRY` (R8). -/
  cmdEntry : Byte
  /-- `ENTRY_VAL` (R8). -/
  entryVal : Byte
  /-- `CMD_XRANGE` (R8). -/
  cmdXRange : Byte
  /-- `CMD_YRANGE` (R8). -/
  cmdYRange : Byte
  /-- `CMD_XPTR` (R8). -/
  cmdXPtr : Byte
  /-- `CMD_YPTR` (R8). -/
  cmdYPtr : Byte
  /-- `SEQ_INIT_FULL` (R9). -/
  seqInitFull : List SeqItem
  /-- `SEQ_INIT_PARTIAL` (R9). -/
  seqInitPartial : List SeqItem
  /-- `SEQ_POWER_ON` (R9). -/
  seqPowerOn : List SeqItem
  /-- `SEQ_POWER_OFF` (R9, R252). -/
  seqPowerOff : List SeqItem
  /-- `SEQ_REFRESH_FULL` (R9). -/
  seqRefreshFull : List SeqItem
  /-- `SEQ_REFRESH_PARTIAL` (R9). -/
  seqRefreshPartial : List SeqItem
  /-- `LUT_FULL` (R9). -/
  lutFull : List LutSegment
  /-- `LUT_PARTIAL` (R9). -/
  lutPartial : List LutSegment
  /-- `BUSY_LEVEL`: the level of the BUSY input that means busy, true for 1 (R10). -/
  busyLevel : Bool
  /-- `BUSY_TIMEOUT_US` (R10). -/
  busyTimeoutUs : Nat
  /-- `RST_LOW_MS` (R10). -/
  rstLowMs : Nat
  /-- `RST_HIGH_MS` (R10). -/
  rstHighMs : Nat
  /-- `WAKE_NEEDS_RESET` (R10). -/
  wakeNeedsReset : Bool
deriving DecidableEq, Repr

/-- The spec's default GREY4 table, bit doubling (R205). -/
def Config.grey4Default : Vector Byte 16 :=
  #v[0x00, 0x03, 0x0C, 0x0F, 0x30, 0x33, 0x3C, 0x3F, 0xC0, 0xC3, 0xCC, 0xCF, 0xF0, 0xF3, 0xFC, 0xFF]

/-- The profile of `State.reset`: P1 of 95_test_vectors.md, whose values are test values and not those of a real panel. P1 gives no
nibble codes, which are taken from P4, no ENTRY bytes, which are taken from P2, and no grey table, which is the spec's default
(R205); none of the three is used with P1's ENC and WINENC. DESIGN CHOICE (log 1), unsafe for a statement that rests on it; the
profile is a parameter (R3, R13). -/
def Config.profile : Profile where
  width := 16
  height := 4
  planes := 1
  bpr := 2
  cap := 4
  enc := .plain
  invBlack := false
  invAccent := false
  twoPass := false
  stream := .perPage
  grey4Lut := Config.grey4Default
  nibBlack := 0
  nibAccent := 4
  nibWhite := 3
  accentOnMono := .black
  partialOk := true
  winEnc := .abs
  cmdWriteBlack := 0x24
  cmdWriteAccent := 0x26
  cmdWinAbs := 0x90
  absSuffix := [0x01]
  cmdEntry := 0x11
  entryVal := 0x03
  cmdXRange := 0x44
  cmdYRange := 0x45
  cmdXPtr := 0x4E
  cmdYPtr := 0x4F
  seqInitFull := [.cmd 0x01, .data [0xAA], .lut .full]
  seqInitPartial := [.cmd 0x01, .data [0xBB], .lut .partialMode]
  seqPowerOn := [.cmd 0x04, .waitBusy]
  seqPowerOff := [.cmd 0x02, .waitBusy]
  seqRefreshFull := [.cmd 0x12, .waitBusy]
  seqRefreshPartial := [.cmd 0x13, .waitBusy]
  lutFull := [⟨0x32, [0x11, 0x22]⟩]
  lutPartial := [⟨0x32, [0x33]⟩]
  busyLevel := true
  busyTimeoutUs := 15000000
  rstLowMs := 10
  rstHighMs := 10
  wakeNeedsReset := true

/-- `ENGINE_BASE`, a platform parameter (R71); the register window is addressed by offsets. Log 14. -/
opaque Config.engineBase : Nat

/-- The part of `POLL_DELAY_MS` above 1 (R10). Log 14. -/
opaque Config.pollDelayAboveOne : Nat

/-- `POLL_DELAY_MS`, a natural number of at least 1 (R10). No observable of R180 depends on it. -/
def Config.pollDelayMs : Nat := Config.pollDelayAboveOne + 1

/-- `BUS_CLOCK_HZ`; no rule depends on it (R10). Log 14. -/
opaque Config.busClockHz : Nat

/-- Free value: the elapsed time of a busy wait whose samples `State.polls` does not hold, by draw number (R190). Log 6. -/
opaque Config.freeBusyElapsed : Nat → Nat

/-- Free value: whether such a busy wait, once at the ceiling, ends in TIMEOUT rather than READY (R190). Log 6. -/
opaque Config.freeBusyTimesOut : Nat → Bool

/-- Free value: a bitmap byte at an address the host has not provisioned, or raced by a host store (R64, R75), by draw number,
space, plane and address. Log 7. -/
opaque Config.freeSrcByte : Nat → Space → Plane → Word → Byte

end Sys2Proof
end

