-- ==== Sys2Proof/Machine/Memory.lean ====
section
/-!
DEFINITION. Byte memories as lists of (address, byte) pairs in one canonical form: addresses strictly rising. A frame-buffer
plane lists no byte equal to the blank byte 0x00, which is what its unlisted indices read as; a bitmap source space lists the
bytes the host has provisioned, and an unlisted address has no byte of its own (R64).
-/

namespace Sys2Proof.Machine

/-- A byte memory (R60). -/
abbrev Memory := List Host.Cell

/-- What an unlisted index of a frame-buffer plane reads as: blank, the value `ClearFB` gives every byte (R120). -/
def blankByte : Byte := 0x00#8

/-- The listed byte at an address. -/
def Memory.lookup : Memory → Nat → Option Byte
  | [], _ => none
  | (a, b) :: m, k => if k = a then some b else if k < a then none else Memory.lookup m k

/-- List `v` at address `k`, in order, replacing what stood there. -/
def Memory.insert : Memory → Nat → Byte → Memory
  | [], k, v => [(k, v)]
  | (a, b) :: m, k, v =>
    if k = a then (k, v) :: m else if k < a then (k, v) :: (a, b) :: m else (a, b) :: Memory.insert m k v

/-- Take address `k` off the list. -/
def Memory.erase : Memory → Nat → Memory
  | [], _ => []
  | (a, b) :: m, k => if k = a then m else if k < a then (a, b) :: m else (a, b) :: Memory.erase m k

/-- Read one byte of a frame-buffer plane. -/
def Memory.readByte (m : Memory) (k : Nat) : Byte := (m.lookup k).getD blankByte

/-- Write one byte of a frame-buffer plane, keeping the canonical form. -/
def Memory.writeByte (m : Memory) (k : Nat) (v : Byte) : Memory :=
  if v = blankByte then m.erase k else m.insert k v

/-- A plane whose bytes at `0 .. n-1` are all `v`. -/
def Memory.filled (n : Nat) (v : Byte) : Memory :=
  if v = blankByte then [] else (List.range n).map fun i => (i, v)

/-- The canonical form of any byte memory: addresses strictly rising. -/
abbrev Memory.wf (m : Memory) : Prop := m.Pairwise fun c d => c.1 < d.1

/-- The canonical form of a frame-buffer plane of `cap` bytes: rising, every index below `cap`, no blank byte listed. -/
abbrev Memory.wfPlane (m : Memory) (cap : Nat) : Prop := m.wf ∧ ∀ c ∈ m, c.1 < cap ∧ c.2 ≠ blankByte

/-- The canonical form of a bitmap source space: rising, every address a u32. -/
abbrev Memory.wfSource (m : Memory) : Prop := m.wf ∧ ∀ c ∈ m, c.1 < 2 ^ 32

end Sys2Proof.Machine
end

