-- ==== Sys2Proof/Machine/State.lean ====
section
/-!
DEFINITION. The state of the engine (10_state.md R22, R25 to R28, R184), what the outside world has lined up for it, and
what it has put out; the reasons a step can stop; the state after reset (R50).
-/

namespace Sys2Proof.Machine

/-- Reasons to stop with a fault. There is none: no behaviour of the engine is a fault or stuck (R280,
93_implementation_defined.md section 1), so the type has no constructor and no step can fault (safe). -/
inductive Fault where
deriving DecidableEq, Repr

/-- Reasons to give no meaning. -/
inductive Refusal where
  /-- Raised by an arm of `exec` whose instruction has no meaning yet; no arm raises it (safe). -/
  | notModelled (mnemonic : String)
  /-- Raised by `State.build` for a profile that R12 does not admit: no engine is built from it (safe; R12, U12). -/
  | illFormedProfile
deriving DecidableEq, Repr

/-- A rectangle (x, y, w, h) of mathematical integers (R14, R45). -/
structure Rect where
  x : Int
  y : Int
  w : Int
  h : Int
deriving DecidableEq, Repr

/-- `S.winMode` (R45). -/
inductive WinMode where
  | full | partialMode
deriving DecidableEq, Repr

/-- `S.phase`: the two enumerated phases (R44); `first` is 0. -/
inductive Phase where
  | first | second
deriving DecidableEq, Repr

/-- How a busy wait ended (R180, R187). -/
inductive BusyOutcome where
  | ready | timeout
deriving DecidableEq, Repr

/-- A wire event (R180). -/
inductive WireEvent where
  /-- `Cmd(b)`. -/
  | cmd (b : Byte)
  /-- `Data(bs)`, one burst. -/
  | data (bs : List Byte)
  /-- `Reset(lo, hi)`, milliseconds. -/
  | reset (lo hi : Nat)
  /-- `Delay(ms)`. -/
  | delay (ms : Nat)
  /-- `Busy(outcome, elapsed)`, microseconds. -/
  | busy (outcome : BusyOutcome) (elapsed : Nat)
deriving DecidableEq, Repr

/-- The three output pins (R184); true is 1. -/
structure Pins where
  cs : Bool
  dc : Bool
  rst : Bool
deriving DecidableEq, Repr

/-- One sample of a busy wait: the BUSY level read and the microseconds since the wait began (R187). -/
structure Poll where
  level : Bool
  elapsed : Nat
deriving DecidableEq, Repr

/-- `S.op`: the operands latched when a command is issued (R49). -/
structure Latched where
  cmd : Word
  argXY : Word
  argWH : Word
  argSrc0 : Word
  argSrc1 : Word
deriving DecidableEq, Repr

/-- What the outside world does next (R20). `width` is the access width in bytes, `off` the offset from ENGINE_BASE. -/
inductive Input where
  /-- The host writes the register window (R80, R81). -/
  | hostWrite (width off : Nat) (v : Word)
  /-- The host reads the register window (R80). -/
  | hostRead (width off : Nat)
  /-- The host stores a byte in a bitmap source space (R64, R75). -/
  | hostStore (space : Space) (addr : Word) (b : Byte)
  /-- The engine's turn: a command that was issued runs to completion (R51). -/
  | engineTurn
  /-- The reset input is asserted and released; `sent` wire events of a command under way have been sent (R310). It takes no time:
  DESIGN CHOICE (log 23). -/
  | hardReset (sent : Nat)
deriving DecidableEq, Repr

/-- The machine. -/
structure State where
  /-- The Panel Profile: configuration, never written (R3). -/
  profile : Profile
  /-- `S.inited` (R22). -/
  inited : Bool
  /-- `S.cursor`, `none` for -1 (R43). -/
  cursor : Option Nat
  /-- `S.phase` (R44). -/
  phase : Phase
  /-- `S.passPartial` (R45, R145). -/
  passPartial : Bool
  /-- `S.passWin` (R45, R145). -/
  passWin : Rect
  /-- `S.winMode` (R45). -/
  winMode : WinMode
  /-- `S.win` (R45). -/
  win : Rect
  /-- `S.rot` (R47). -/
  rot : Rotation
  /-- `S.mirror` (R47). -/
  mirror : Bool
  /-- `S.pwr` (R46). -/
  pwr : Bool
  /-- `S.needReset` (R46). -/
  needReset : Bool
  /-- `S.cont` (R31). -/
  cont : Bool
  /-- `S.busy` (R30). -/
  busy : Bool
  /-- `S.lastBusyUs` (R38, R189). -/
  lastBusyUs : Word
  /-- `S.diag`, bits [5:0] of DIAG (R33). -/
  diag : BitVec 6
  /-- `FB[0]` (R48, R61). -/
  fbBlack : Memory
  /-- `FB[1]`, empty on a one-plane profile (R48). -/
  fbAccent : Memory
  /-- `S.op` (R49). -/
  op : Latched
  /-- ARG_XY (R25). -/
  argXY : Word
  /-- ARG_WH (R26). -/
  argWH : Word
  /-- ARG_SRC0 (R27). -/
  argSrc0 : Word
  /-- ARG_SRC1 (R28). -/
  argSrc1 : Word
  /-- Output pins (R184). -/
  pins : Pins
  /-- The wire trace since power-up, oldest event first (R16, R180). -/
  wire : List WireEvent
  /-- SRC_DATA as far as the host has provisioned it (R60, R64). -/
  srcData : Memory
  /-- SRC_PROG as far as the host has provisioned it (R60, R64). -/
  srcProg : Memory
  /-- Source addresses the host has stored to while a command executes (R75). The model's own field. -/
  raced : List (Space × Nat)
  /-- The coming samples of the BUSY pin and the clock (R187, R190). The model's own field. -/
  polls : List Poll
  /-- The number of the next free value. The model's own field. -/
  draws : Nat
  /-- What the outside world does next, first first. The model's own field. -/
  inputs : List Input
  /-- What the host's last read returned (R80). The model's own field. -/
  readData : Word
deriving DecidableEq, Repr

/-- The whole panel (0, 0, W, H). -/
def fullRect (p : Profile) : Rect := { x := 0, y := 0, w := p.width, h := p.height }

/-- The reset state of the engine built from profile `p` (R50). The frame buffer and `S.op`, which the spec leaves
unspecified and unobservable, are blank and zero: DESIGN CHOICE (logs 2 and 3). -/
def State.resetFor (p : Profile) : State where
  profile := p
  inited := false
  cursor := none
  phase := .first
  passPartial := false
  passWin := fullRect p
  winMode := .full
  win := { x := 0, y := 0, w := 0, h := 0 }
  rot := .r0
  mirror := false
  pwr := false
  needReset := true
  cont := false
  busy := false
  lastBusyUs := 0#32
  diag := 0#6
  fbBlack := []
  fbAccent := []
  op := { cmd := 0#32, argXY := 0#32, argWH := 0#32, argSrc0 := 0#32, argSrc1 := 0#32 }
  argXY := 0#32
  argWH := 0#32
  argSrc0 := 0#32
  argSrc1 := 0#32
  pins := { cs := true, dc := true, rst := true }
  wire := []
  srcData := []
  srcProg := []
  raced := []
  polls := []
  draws := 0
  inputs := []
  readData := 0#32

/-- The machine right after reset (R50, R310), for the profile of `Config.profile` (log 1). -/
def State.reset : State := State.resetFor Config.profile

end Sys2Proof.Machine
end

