-- ==== Sys2Proof/Machine/Flags.lean ====
section
/-!
DEFINITION. The flags of the engine: the sticky DIAG bits (10_state.md R33, 60_exceptions.md R282) and the STATUS bits (R29).
-/

namespace Sys2Proof.Machine

/-- The diagnostics; the code of each is its DIAG bit number (R282). -/
inductive Diag where
  | timeout | reject | badcmd | overrun | noinit | passlock
deriving DecidableEq, Repr

/-- The DIAG bit number of a diagnostic (R33, R282). -/
def Diag.code : Diag → Nat
  | .timeout => 0
  | .reject => 1
  | .badcmd => 2
  | .overrun => 3
  | .noinit => 4
  | .passlock => 5

/-- The DIAG mask of a diagnostic. -/
def Diag.mask (d : Diag) : BitVec 6 := 1#6 <<< d.code

/-- `diag NAME`: set the bit and do nothing else (R17, R33). -/
def State.raise (s : State) (d : Diag) : State := { s with diag := s.diag ||| d.mask }

/-- A DIAG write: each bit in [5:0] written as 1 is cleared, the others keep (R33, R81). -/
def State.clearDiag (s : State) (v : Word) : State := { s with diag := s.diag &&& ~~~(v.extractLsb' 0 6) }

/-- STATUS.ACTIVE: a pass is active iff the cursor is not -1 (R29, R43). -/
def State.active (s : State) : Bool := s.cursor.isSome

/-- `S.phase` as a bit (R29). -/
def Phase.bit : Phase → Bool
  | .first => false
  | .second => true

/-- STATUS.WINPART (R29). -/
def WinMode.isPartial : WinMode → Bool
  | .full => false
  | .partialMode => true

/-- The STATUS register (R29). -/
def State.status (s : State) : Word :=
  0#24 ++ BitVec.ofBool s.passPartial ++ BitVec.ofBool s.inited ++ BitVec.ofBool s.winMode.isPartial ++
    BitVec.ofBool s.pwr ++ BitVec.ofBool s.phase.bit ++ BitVec.ofBool s.active ++ BitVec.ofBool s.cont ++
    BitVec.ofBool s.busy

end Sys2Proof.Machine
end

