-- ==== Sys2Proof/Machine/Operands.lean ====
section
/-!
DEFINITION. Integer and bit-field helpers (00_scope.md R14) and operand assembly (30_encoding.md R84, R86). Operands come from
the latched `S.op` only (R49) and are mathematical integers, so nothing overflows.
-/

namespace Sys2Proof.Machine

/-- `floor8(v)` = v - (v mod 8) (R14). -/
def floor8 (v : Int) : Int := v - v % 8

/-- `ceil8(v)` = floor8(v + 7) (R14). -/
def ceil8 (v : Int) : Int := floor8 (v + 7)

/-- `clamp(v, lo, hi)` = min(max(v, lo), hi) (R14). -/
def clamp (v lo hi : Int) : Int := min (max v lo) hi

/-- `sext_16(v)` (R14). -/
def sext16 (v : BitVec 16) : Int := v.toInt

/-- Bits [15:0] of a register. -/
def lowHalf (v : Word) : BitVec 16 := v.extractLsb' 0 16

/-- Bits [31:16] of a register. -/
def highHalf (v : Word) : BitVec 16 := v.extractLsb' 16 16

/-- `v[7:0]` of an integer (R14, R198, R200). -/
def lowByte (v : Int) : Byte := (BitVec.ofInt 16 v).extractLsb' 0 8

/-- `v[15:8]` of an integer (R14, R198, R200). -/
def highByte (v : Int) : Byte := (BitVec.ofInt 16 v).extractLsb' 8 8

/-- The operand x (R84). -/
def State.opX (s : State) : Int := sext16 (lowHalf s.op.argXY)

/-- The operand y (R84). -/
def State.opY (s : State) : Int := sext16 (highHalf s.op.argXY)

/-- The operand w (R84). -/
def State.opW (s : State) : Int := sext16 (lowHalf s.op.argWH)

/-- The operand h (R84). -/
def State.opH (s : State) : Int := sext16 (highHalf s.op.argWH)

/-- The rectangle operand (x, y, w, h) of the window and image commands (R236, R260). -/
def State.opRect (s : State) : Rect := { x := s.opX, y := s.opY, w := s.opW, h := s.opH }

/-- The operand src0 or src1, by plane (R84, R264). -/
def State.opSrc (s : State) : Plane → Word
  | .black => s.op.argSrc0
  | .accent => s.op.argSrc1

end Sys2Proof.Machine
end

