-- ==== Sys2Proof/Machine/Profile.lean ====
section
/-!
DEFINITION. Derived constants of the profile (00_scope.md R13, 42_pager.md R140 to R142), its well-formedness (R12), and the
per-plane and per-mode choices of its fields.
-/

namespace Sys2Proof

/-- `PH`, page height in rows (R13, R140). -/
def Profile.pageHeight (p : Profile) : Nat := p.cap / p.bpr

/-- `PC`, page count: ceil(H / PH) (R13, R141). -/
def Profile.pageCount (p : Profile) : Nat := (p.height + p.pageHeight - 1) / p.pageHeight

/-- `FRAME_BYTES` (R13). -/
def Profile.frameBytes (p : Profile) : Nat := p.width * p.height / 8

/-- `PLANES_STREAMED`: the planes a pass streams (R13). -/
def Profile.planesStreamed (p : Profile) : List Plane := if p.planes = 2 then [.black, .accent] else [.black]

/-- `PageStart(n)` = n * PH (R142). -/
def Profile.pageStart (p : Profile) (n : Nat) : Int := (n : Int) * p.pageHeight

/-- `PageRows(n)` = min(PH, H - n * PH) (R142). -/
def Profile.pageRows (p : Profile) (n : Nat) : Int := min (p.pageHeight : Int) (p.height - (n : Int) * p.pageHeight)

/-- `INV[q]` (R7). -/
def Profile.inv (p : Profile) : Plane → Bool
  | .black => p.invBlack
  | .accent => p.invAccent

/-- `CMD_WRITE[q]` (R8). -/
def Profile.cmdWrite (p : Profile) : Plane → Byte
  | .black => p.cmdWriteBlack
  | .accent => p.cmdWriteAccent

/-- The init sequence of a mode (R9, R193). -/
def Profile.seqInit (p : Profile) : Mode → List SeqItem
  | .full => p.seqInitFull
  | .partialMode => p.seqInitPartial

/-- The refresh sequence of a mode (R9, R196). -/
def Profile.seqRefresh (p : Profile) : Mode → List SeqItem
  | .full => p.seqRefreshFull
  | .partialMode => p.seqRefreshPartial

/-- The LUT table of a mode (R9, R192). -/
def Profile.lutOf (p : Profile) : Mode → List LutSegment
  | .full => p.lutFull
  | .partialMode => p.lutPartial

/-- Whether a sequence item is a LUT upload. -/
def SeqItem.isLut : SeqItem → Bool
  | .lut _ => true
  | .cmd _ => false
  | .data _ => false
  | .waitBusy => false
  | .delay _ => false
  | .resetPulse => false

/-- A DATA item carries a non-empty list (R11). -/
def SeqItem.nonEmpty : SeqItem → Bool
  | .data bs => !bs.isEmpty
  | .cmd _ => true
  | .waitBusy => true
  | .delay _ => true
  | .resetPulse => true
  | .lut _ => true

/-- R12 (a): W a multiple of 8 and the bounds of R6. -/
def Profile.wfSize (p : Profile) : Bool :=
  p.width % 8 = 0 && decide (8 ≤ p.width) && decide (p.width ≤ 32760) && decide (1 ≤ p.height) && decide (p.height ≤ 32767)

/-- R12 (b): BPR = W / 8. -/
def Profile.wfBpr (p : Profile) : Bool := p.bpr = p.width / 8

/-- R12 (c): CAP a multiple of BPR, at least BPR. -/
def Profile.wfCap (p : Profile) : Bool := p.cap % p.bpr = 0 && decide (p.bpr ≤ p.cap)

/-- R12 (d): one plane or two. -/
def Profile.wfPlanes (p : Profile) : Bool := p.planes = 1 || p.planes = 2

/-- R12 (e), (f): GREY4 has one plane, NIBBLE two. -/
def Profile.wfEncoding (p : Profile) : Bool :=
  match p.enc with
  | .plain => true
  | .grey4 => p.planes = 1
  | .nibble => p.planes = 2

/-- R12 (g): TWO_PASS implies PLANES = 2, ENC = PLAIN and STREAM = CONTINUOUS. -/
def Profile.wfTwoPass (p : Profile) : Bool :=
  !p.twoPass || (p.planes = 2 && p.enc = .plain && p.stream = .continuous)

/-- R12 (h): PLANES = 2, ENC = PLAIN and not TWO_PASS imply STREAM = PER_PAGE. -/
def Profile.wfStream (p : Profile) : Bool :=
  !(p.planes = 2 && p.enc = .plain && !p.twoPass) || p.stream = .perPage

/-- R12 (i), (l): WINENC = NONE implies no partial update and CONTINUOUS; WINENC = ENTRY implies W <= 2048. -/
def Profile.wfWinEnc (p : Profile) : Bool :=
  match p.winEnc with
  | .abs => true
  | .entry => decide (p.width ≤ 2048)
  | .none => !p.partialOk && p.stream = .continuous

/-- R12 (k): a LUT item occurs only in the two init sequences. -/
def Profile.wfLut (p : Profile) : Bool :=
  !(p.seqPowerOn ++ p.seqPowerOff ++ p.seqRefreshFull ++ p.seqRefreshPartial).any SeqItem.isLut

/-- R11: every DATA item carries at least one byte. -/
def Profile.wfItems (p : Profile) : Bool :=
  (p.seqInitFull ++ p.seqInitPartial ++ p.seqPowerOn ++ p.seqPowerOff ++ p.seqRefreshFull ++ p.seqRefreshPartial).all
    SeqItem.nonEmpty

/-- Profile well-formedness (R12). Constraint (j), nibble codes below 16, holds by the codes' type. -/
def Profile.wf (p : Profile) : Bool :=
  p.wfSize && p.wfBpr && p.wfCap && p.wfPlanes && p.wfEncoding && p.wfTwoPass && p.wfStream && p.wfWinEnc && p.wfLut &&
    p.wfItems

end Sys2Proof
end

