-- ==== Sys2Proof/Machine/Ops.lean ====
section
/-!
DEFINITION. The shared operations: wire events and pins (43_controller.md R180 to R185), the frame buffer (R61, R120, R144), the
bitmap source (R63, R64, R75), and the refusal of a command (60_exceptions.md R285), which is what this engine has in place of
taking an exception: it has no traps, saves nothing and returns from nothing (R280, R288, R289).
-/

namespace Sys2Proof.Machine

/-- What a command, or a step, answers. -/
abbrev Result := Host.Outcome State Fault Refusal

/-! ## Wire and pins -/

/-- What the engine does on its pins (R181 to R186). -/
inductive PinAction where
  | cs (v : Bool)
  | dc (v : Bool)
  | rst (v : Bool)
  /-- `transferByte(value)`; the byte it returns is discarded (R183). -/
  | transfer (b : Byte)
  | sleep (ms : Nat)
deriving DecidableEq, Repr

/-- The pin-level meaning of a wire event (R181, R182, R185, R186). A busy wait only reads BUSY (R187). -/
def WireEvent.pinActions : WireEvent → List PinAction
  | .cmd b => [.cs false, .dc false, .transfer b, .cs true]
  | .data bs => [.cs false, .dc true] ++ bs.map .transfer ++ [.cs true]
  | .reset lo hi => [.rst false, .sleep lo, .rst true, .sleep hi]
  | .delay ms => [.sleep ms]
  | .busy _ _ => []

/-- The bits of a byte in the order the wire carries them, most significant bit first (R67, R183). -/
def wireBits (b : Byte) : List Bool := (List.range 8).map fun i => b.getLsbD (7 - i)

/-- The bits shifted out by a wire event, in order (R183). -/
def WireEvent.bits (e : WireEvent) : List Bool :=
  e.pinActions.flatMap fun
    | .transfer b => wireBits b
    | .cs _ => []
    | .dc _ => []
    | .rst _ => []
    | .sleep _ => []

/-- The pins after one pin action (R184). -/
def Pins.after (p : Pins) : PinAction → Pins
  | .cs v => { p with cs := v }
  | .dc v => { p with dc := v }
  | .rst v => { p with rst := v }
  | .transfer _ => p
  | .sleep _ => p

/-- `emit e` (R16): append to the wire trace and move the pins. -/
def State.emit (s : State) (e : WireEvent) : State :=
  { s with wire := s.wire ++ [e], pins := e.pinActions.foldl Pins.after s.pins }

/-- `emit Cmd(b)` (R181). -/
def State.emitCmd (s : State) (b : Byte) : State := s.emit (.cmd b)

/-- `emit Data(bs)`; an empty list emits nothing (R180, R182). -/
def State.emitData (s : State) (bs : List Byte) : State := if bs = [] then s else s.emit (.data bs)

/-! ## Frame buffer -/

/-- Plane q of the frame buffer (R48). -/
def State.plane (s : State) : Plane → Memory
  | .black => s.fbBlack
  | .accent => s.fbAccent

/-- Replace plane q of the frame buffer. -/
def State.withPlane (s : State) (q : Plane) (m : Memory) : State :=
  match q with
  | .black => { s with fbBlack := m }
  | .accent => { s with fbAccent := m }

/-- `FB[q][i]` (R15). -/
def State.fbRead (s : State) (q : Plane) (i : Nat) : Byte := (s.plane q).readByte i

/-- `FB[q][i] <- v` (R15). -/
def State.fbWrite (s : State) (q : Plane) (i : Nat) (v : Byte) : State := s.withPlane q ((s.plane q).writeByte i v)

/-- `FB[q][*] <- v`: all CAP bytes of plane q (R122). -/
def State.fbFill (s : State) (q : Plane) (v : Byte) : State := s.withPlane q (Memory.filled s.profile.cap v)

/-- `ClearFB()`: every byte of every plane becomes 0x00 (R120). -/
def State.clearFB (s : State) : State := (s.fbFill .black 0x00#8).fbFill .accent 0x00#8

/-- `BufRead(q, i)`: 0x00 outside [0, CAP) (R144). -/
def State.bufRead (s : State) (q : Plane) (i : Int) : Byte :=
  if 0 ≤ i ∧ i < s.profile.cap then s.fbRead q i.toNat else 0x00#8

/-! ## Bitmap source -/

/-- The provisioned bytes of a source space (R60). -/
def State.source (s : State) : Space → Memory
  | .data => s.srcData
  | .prog => s.srcProg

/-- Replace the provisioned bytes of a source space. -/
def State.withSource (s : State) (sp : Space) (m : Memory) : State :=
  match sp with
  | .data => { s with srcData := m }
  | .prog => { s with srcProg := m }

/-- `SrcRead(space, addr)` for plane q of the image command under way: the provisioned byte; where there is none, or the
host stored to it during the command, a free value (R64, R75; log 7). -/
def State.srcRead (s : State) (q : Plane) (sp : Space) (addr : Word) : Byte :=
  if s.raced.contains (sp, addr.toNat) then Config.freeSrcByte s.draws sp q addr
  else ((s.source sp).lookup addr.toNat).getD (Config.freeSrcByte s.draws sp q addr)

/-! ## Refusing a command -/

/-- SET_FULL_WINDOW or SET_PARTIAL_WINDOW (R285 step 4). -/
def isWindowCommand : Instr → Bool
  | .setFullWindow => true
  | .setPartialWindow => true
  | .init => false
  | .setRotation _ _ => false
  | .fill _ => false
  | .setPixel _ => false
  | .setPixelPhys _ => false
  | .beginFrame => false
  | .advancePage => false
  | .powerOff => false
  | .clearPanel _ _ => false
  | .writeImage _ => false
  | .drawImage _ => false

/-- WRITE_IMAGE or DRAW_IMAGE (R285 step 6). -/
def isImageCommand : Instr → Bool
  | .writeImage _ => true
  | .drawImage _ => true
  | .init => false
  | .setRotation _ _ => false
  | .setFullWindow => false
  | .setPartialWindow => false
  | .fill _ => false
  | .setPixel _ => false
  | .setPixelPhys _ => false
  | .beginFrame => false
  | .advancePage => false
  | .powerOff => false
  | .clearPanel _ _ => false

/-- The refusal checks of R285, steps 2 to 6 in their order; the first that holds names the diagnostic. (Step 1, a reserved
OP, concerns words that are no command: Machine/Engine.lean.) -/
def State.refusal (s : State) (i : Instr) : Option Diag :=
  if s.inited = false ∧ i ≠ .init then some .noinit
  else if i.color? = some .reserved then some .badcmd
  else if isWindowCommand i = true ∧ s.active = true then some .passlock
  else if i = .setPartialWindow ∧ s.profile.partialOk = false then some .reject
  else if isImageCommand i = true ∧ s.profile.partialOk = false ∧ s.opRect ≠ fullRect s.profile then some .reject
  else none

/-- Run a command: a refused one sets its one DIAG bit and does nothing else; any other has its effect (R280, R285). -/
def State.perform (s : State) (i : Instr) (effect : State → State) : Result :=
  match s.refusal i with
  | some d => .next (s.raise d)
  | none => .next (effect s)

end Sys2Proof.Machine
end

