-- ==== Sys2Proof/Machine/Encoders.lean ====
section
/-!
DEFINITION. The data encoders (43_controller.md R203 to R206).
-/

namespace Sys2Proof.Machine

/-- A byte source `src(q, c, Y)`: plane, byte column, panel row (R203). -/
abbrev ByteSource := Plane → Int → Int → Byte

/-- `Empty(R)` (R146). -/
def Rect.isEmpty (R : Rect) : Bool := R.w = 0 || R.h = 0

/-- The byte positions (c, Y) of a rectangle, row by row from the top, left to right (R203). -/
def Rect.cells (R : Rect) : List (Int × Int) :=
  (List.range R.h.toNat).flatMap fun (i : Nat) =>
    (List.range (R.w / 8).toNat).map fun (j : Nat) => (R.x / 8 + (j : Int), R.y + (i : Int))

/-- `EncPlain(q, R, src)` (R204). -/
def encPlain (p : Profile) (q : Plane) (R : Rect) (src : ByteSource) : List Byte :=
  R.cells.map fun cy => if p.inv q then ~~~(src q cy.1 cy.2) else src q cy.1 cy.2

/-- The grey expansion of a nibble: `GREY4_LUT[n]` (R205). -/
def greyOf (p : Profile) (n : BitVec 4) : Byte := p.grey4Lut[n.toNat]'n.isLt

/-- `EncGrey(0, R, src)`: high nibble, then low nibble (R205). -/
def encGrey (p : Profile) (R : Rect) (src : ByteSource) : List Byte :=
  R.cells.flatMap fun cy =>
    [greyOf p ((src .black cy.1 cy.2).extractLsb' 4 4), greyOf p ((src .black cy.1 cy.2).extractLsb' 0 4)]

/-- `code(bk, ak)`: black wins over accent wins over white (R62, R206). -/
def nibbleCode (p : Profile) (bk ak : Bool) : BitVec 4 :=
  if bk then p.nibBlack else if ak then p.nibAccent else p.nibWhite

/-- Output byte j of the nibble encoder for black byte b and accent byte a (R206). -/
def nibbleByte (p : Profile) (b a : Byte) (j : Nat) : Byte :=
  nibbleCode p (b.getLsbD (7 - 2 * j)) (a.getLsbD (7 - 2 * j)) ++ nibbleCode p (b.getLsbD (6 - 2 * j)) (a.getLsbD (6 - 2 * j))

/-- `EncNibble(R, src)`: four bytes for each position (R206). -/
def encNibble (p : Profile) (R : Rect) (src : ByteSource) : List Byte :=
  R.cells.flatMap fun cy => (List.range 4).map (nibbleByte p (src .black cy.1 cy.2) (src .accent cy.1 cy.2))

/-- `Enc(q, R, src)`: EncPlain when ENC = PLAIN, EncGrey when ENC = GREY4 (R203). NIBBLE never calls it. -/
def encOne (p : Profile) (q : Plane) (R : Rect) (src : ByteSource) : List Byte :=
  match p.enc with
  | .plain => encPlain p q R src
  | .grey4 => encGrey p R src
  | .nibble => encNibble p R src

end Sys2Proof.Machine
end

