-- ==== Sys2Proof/Machine/Controller.lean ====
section
/-!
DEFINITION. The controller protocol driver (43_controller.md R186 to R202, R208): reset pulse, busy wait, sequences, LUT upload,
init, power, refresh, RAM-window addressing, windowed writes; and the plane emission shared by pages and bulk commands
(42_pager.md R151, 45_bulk_power.md R265).
-/

namespace Sys2Proof.Machine

/-- `ResetPulse()` (R186). -/
def State.resetPulse (s : State) : State :=
  { s.emit (.reset s.profile.rstLowMs s.profile.rstHighMs) with needReset := false }

/-! ## Busy wait -/

/-- The polling loop of R187 over the samples at hand: the outcome, the elapsed time and the samples left; none when the
samples run out before the loop exits. -/
def pollLoop (p : Profile) : List Poll → Option (BusyOutcome × Nat × List Poll)
  | [] => none
  | a :: rest =>
    if a.level ≠ p.busyLevel then some (.ready, a.elapsed, rest)
    else if p.busyTimeoutUs ≤ a.elapsed then some (.timeout, a.elapsed, rest)
    else pollLoop p rest

/-- The free outcome of draw n, under the constraint of R190: TIMEOUT only at or past the ceiling (log 6). -/
def freeOutcome (p : Profile) (n : Nat) : BusyOutcome :=
  if Config.freeBusyTimesOut n = true ∧ p.busyTimeoutUs ≤ Config.freeBusyElapsed n then .timeout else .ready

/-- The answer of the next busy wait, the samples left and the next draw number (R187, R190). -/
def State.busyAnswer (s : State) : BusyOutcome × Nat × List Poll × Nat :=
  match pollLoop s.profile s.polls with
  | some (o, el, rest) => (o, el, rest, s.draws)
  | none => (freeOutcome s.profile s.draws, Config.freeBusyElapsed s.draws, [], s.draws + 1)

/-- `diag TIMEOUT` when a busy wait timed out (R187, R188). -/
def State.noteOutcome (s : State) : BusyOutcome → State
  | .ready => s
  | .timeout => s.raise .timeout

/-- `S.lastBusyUs <- min(el, 0xFFFFFFFF)` (R187, R189). -/
def saturate32 (el : Nat) : Word := BitVec.ofNat 32 (min el 0xFFFFFFFF)

/-- `BusyWait()` (R187 to R190). -/
def State.busyWait (s : State) : State :=
  let (o, el, rest, n) := s.busyAnswer
  ({ s.noteOutcome o with lastBusyUs := saturate32 el, polls := rest, draws := n }).emit (.busy o el)

/-! ## Sequences -/

/-- One segment of a LUT table (R192). -/
def State.lutSegment (s : State) (g : LutSegment) : State := (s.emitCmd g.cmd).emitData g.bytes

/-- `LutUpload(m)` (R192). -/
def State.lutUpload (s : State) (m : Mode) : State := (s.profile.lutOf m).foldl State.lutSegment s

/-- One sequence item (R191). -/
def State.runItem (s : State) (i : SeqItem) : State :=
  match i with
  | .cmd b => s.emitCmd b
  | .data bs => s.emitData bs
  | .waitBusy => s.busyWait
  | .delay ms => s.emit (.delay ms)
  | .resetPulse => s.resetPulse
  | .lut m => s.lutUpload m

/-- `RunSeq(seq)`: the items in list order (R191). -/
def State.runSeq (s : State) (seq : List SeqItem) : State := seq.foldl State.runItem s

/-- `PowerOnIfOff()` (R194). -/
def State.powerOnIfOff (s : State) : State :=
  if s.pwr = false then { s.runSeq s.profile.seqPowerOn with pwr := true } else s

/-- `S.pwr <- 0; if WAKE_NEEDS_RESET: S.needReset <- 1` (R195). -/
def State.notePowerOff (s : State) : State :=
  { s with pwr := false, needReset := s.needReset || s.profile.wakeNeedsReset }

/-- `PowerOffIfOn()` (R195). -/
def State.powerOffIfOn (s : State) : State :=
  if s.pwr = true then (s.runSeq s.profile.seqPowerOff).notePowerOff else s

/-- The reset pulse that precedes an init when `S.needReset` is set (R193). -/
def State.resetIfNeeded (s : State) : State := if s.needReset = true then s.resetPulse else s

/-- `InitPanel(mode)` (R193). -/
def State.initPanel (s : State) (m : Mode) : State := (s.resetIfNeeded.runSeq (s.profile.seqInit m)).powerOnIfOff

/-- `Refresh(mode)` (R196). -/
def State.refresh (s : State) (m : Mode) : State := s.runSeq (s.profile.seqRefresh m)

/-! ## RAM window -/

/-- The ABS coordinates: xs, xe, ys, ye, high byte first (R197, R198). -/
def absBytes (R : Rect) : List Byte :=
  [highByte R.x, lowByte R.x, highByte (R.x + R.w - 1), lowByte (R.x + R.w - 1),
   highByte R.y, lowByte R.y, highByte (R.y + R.h - 1), lowByte (R.y + R.h - 1)]

/-- The window of the ABS encoding (R198). -/
def State.setWindowAbs (s : State) (R : Rect) : State :=
  (s.emitCmd s.profile.cmdWinAbs).emitData (absBytes R ++ s.profile.absSuffix)

/-- Entry mode (R199). -/
def State.entryMode (s : State) : State := (s.emitCmd s.profile.cmdEntry).emitData [s.profile.entryVal]

/-- A byte-column address (R200). -/
def columnByte (x : Int) : Byte := BitVec.ofInt 8 (x / 8)

/-- Ranges of the ENTRY encoding (R200). -/
def State.entryRanges (s : State) (R : Rect) : State :=
  (((s.emitCmd s.profile.cmdXRange).emitData [columnByte R.x, columnByte (R.x + R.w - 1)]).emitCmd
    s.profile.cmdYRange).emitData [lowByte R.y, highByte R.y, lowByte (R.y + R.h - 1), highByte (R.y + R.h - 1)]

/-- RAM pointers of the ENTRY encoding (R201). -/
def State.entryPointers (s : State) (R : Rect) : State :=
  (((s.emitCmd s.profile.cmdXPtr).emitData [columnByte R.x]).emitCmd s.profile.cmdYPtr).emitData [lowByte R.y, highByte R.y]

/-- `SetWindow(R)` (R197, R202). -/
def State.setWindow (s : State) (R : Rect) : State :=
  match s.profile.winEnc with
  | .abs => s.setWindowAbs R
  | .entry => (s.entryMode.entryRanges R).entryPointers R
  | .none => s

/-- `WriteRect(q, R, bytes)` (R208). -/
def State.writeRect (s : State) (q : Plane) (R : Rect) (bytes : List Byte) : State :=
  ((s.setWindow R).emitCmd (s.profile.cmdWrite q)).emitData bytes

/-- `EmitPlanes(R, src)` (R265), which is also `StreamPerPage` (R151). -/
def State.emitPlanes (s : State) (R : Rect) (src : ByteSource) : State :=
  if s.profile.enc = .nibble then s.writeRect .black R (encNibble s.profile R src)
  else if s.profile.planes = 1 then s.writeRect .black R (encOne s.profile .black R src)
  else (s.writeRect .black R (encPlain s.profile .black R src)).writeRect .accent R (encPlain s.profile .accent R src)

end Sys2Proof.Machine
end

