-- ==== Sys2Proof/Machine/Bulk.lean ====
section
/-!
DEFINITION. Initialisation, power and bulk operations: INIT, POWER_OFF, CLEAR_PANEL, WRITE_IMAGE, DRAW_IMAGE (45_bulk_power.md R250
to R266).
-/

namespace Sys2Proof.Machine

/-- The effect of INIT (R250). -/
def State.initialise (s : State) : State :=
  { s.clearFB with
    cursor := none, phase := .first, cont := false, passPartial := false, passWin := fullRect s.profile,
    winMode := .full, pwr := false, needReset := true, inited := true }

/-- `PatByte(q, c, Y)` (R255). -/
def patByte (bpat apat : Byte) : ByteSource := fun q _ _ =>
  match q with
  | .black => bpat
  | .accent => apat

/-- The effect of CLEAR_PANEL (R254). -/
def State.clearPanel (s : State) (bpat apat : Byte) : State :=
  (((s.initPanel .full).emitPlanes (fullRect s.profile) (patByte bpat apat)).refresh .full).powerOffIfOn

/-- `imgMode` (R253). -/
def State.imgMode (s : State) : Mode := if s.profile.partialOk = true then .partialMode else .full

/-- `wb`: bytes per bitmap row (R261, R263). -/
def bitmapStride (w : Int) : Int := if 0 < w then (w + 7) / 8 else 0

/-- `Rw` of `ImgClip(x, y, w, h)` (R263). -/
def imgWindow (p : Profile) (R : Rect) : Rect :=
  { x := max (floor8 R.x) 0
    y := max R.y 0
    w := max 0 (min (floor8 R.x + bitmapStride R.w * 8) p.width - max (floor8 R.x) 0)
    h := max 0 (min (R.y + R.h) p.height - max R.y 0) }

/-- `dx` of `ImgClip` (R263). -/
def imgDx (R : Rect) : Int := max (floor8 R.x) 0 - floor8 R.x

/-- `dy` of `ImgClip` (R263). -/
def imgDy (R : Rect) : Int := max R.y 0 - R.y

/-- The space an image command reads (R63). -/
def imgSpace (f : ImageFlags) : Space := if f.prog then .prog else .data

/-- The bitmap row drawn at panel row Y (R264). -/
def imgRow (p : Profile) (f : ImageFlags) (R : Rect) (Y : Int) : Int :=
  if f.mirrorY then R.h - 1 - (Y - (imgWindow p R).y + imgDy R) else Y - (imgWindow p R).y + imgDy R

/-- The source address of plane q at byte column c, row Y (R264). -/
def State.imgAddr (s : State) (f : ImageFlags) (q : Plane) (c Y : Int) : Word :=
  BitVec.ofInt 32 ((s.opSrc q).toNat + imgRow s.profile f s.opRect Y * bitmapStride s.opW +
    (c - (imgWindow s.profile s.opRect).x / 8) + imgDx s.opRect / 8)

/-- `ImgByte(q, c, Y)` (R264). -/
def State.imgByte (s : State) (f : ImageFlags) : ByteSource := fun q c Y =>
  if q = .accent ∧ f.hasAccent = false then 0x00#8
  else if f.invert then ~~~(s.srcRead q (imgSpace f) (s.imgAddr f q c Y))
  else s.srcRead q (imgSpace f) (s.imgAddr f q c Y)

/-- The body of the image commands: init, then the windowed writes unless the clipped rectangle is empty (R262). The draw
number moves on, so that each command's free bytes are its own (log 7). -/
def State.putImage (s : State) (f : ImageFlags) : State :=
  if (imgWindow s.profile s.opRect).isEmpty = true then s.initPanel s.imgMode
  else
    { (s.initPanel s.imgMode).emitPlanes (imgWindow s.profile s.opRect) ((s.initPanel s.imgMode).imgByte f) with
      draws := (s.initPanel s.imgMode).draws + 1 }

/-- The effect of DRAW_IMAGE (R266). -/
def State.showImage (s : State) (f : ImageFlags) : State :=
  if s.profile.partialOk = true then (s.putImage f).refresh .partialMode
  else ((s.putImage f).refresh .full).powerOffIfOn

/-- INIT (R250). -/
def execInit (s : State) : Result := s.perform .init fun s => s.initialise

/-- POWER_OFF (R251). -/
def execPowerOff (s : State) : Result := s.perform .powerOff fun s => s.powerOffIfOn

/-- CLEAR_PANEL (R254). -/
def execClearPanel (bpat apat : Byte) (s : State) : Result :=
  s.perform (.clearPanel bpat apat) fun s => s.clearPanel bpat apat

/-- WRITE_IMAGE (R262). -/
def execWriteImage (f : ImageFlags) (s : State) : Result := s.perform (.writeImage f) fun s => s.putImage f

/-- DRAW_IMAGE (R266). -/
def execDrawImage (f : ImageFlags) (s : State) : Result := s.perform (.drawImage f) fun s => s.showImage f

end Sys2Proof.Machine
end

