-- ==== Sys2Proof/Machine/Geometry.lean ====
section
/-!
DEFINITION. The geometry transform and SET_ROTATION (40_geometry.md R100 to R107).
-/

namespace Sys2Proof.Machine

/-- `LW(r)`, the logical width (R100). -/
def logicalWidth (p : Profile) : Rotation → Int
  | .r0 => p.width
  | .r1 => p.height
  | .r2 => p.width
  | .r3 => p.height

/-- `LH(r)`, the logical height (R100). -/
def logicalHeight (p : Profile) : Rotation → Int
  | .r0 => p.height
  | .r1 => p.width
  | .r2 => p.height
  | .r3 => p.width

/-- `Mir(m, r, (x, y))` (R101). -/
def mirrorPoint (p : Profile) (m : Bool) (r : Rotation) (pt : Int × Int) : Int × Int :=
  if m then (logicalWidth p r - 1 - pt.1, pt.2) else pt

/-- `Rot(r, (x, y))` (R102). -/
def rotatePoint (p : Profile) (r : Rotation) (pt : Int × Int) : Int × Int :=
  match r with
  | .r0 => (pt.1, pt.2)
  | .r1 => (p.width - 1 - pt.2, pt.1)
  | .r2 => (p.width - 1 - pt.1, p.height - 1 - pt.2)
  | .r3 => (pt.2, p.height - 1 - pt.1)

/-- `T(r, m, pt)` = Rot(r, Mir(m, r, pt)) (R102). -/
def transformPoint (p : Profile) (r : Rotation) (m : Bool) (pt : Int × Int) : Int × Int :=
  rotatePoint p r (mirrorPoint p m r pt)

/-- `MirR(m, r, R)` (R103). -/
def mirrorRect (p : Profile) (m : Bool) (r : Rotation) (R : Rect) : Rect :=
  if m then { R with x := logicalWidth p r - R.x - R.w } else R

/-- `RotR(r, R)` (R104). -/
def rotateRect (p : Profile) (r : Rotation) (R : Rect) : Rect :=
  match r with
  | .r0 => { x := R.x, y := R.y, w := R.w, h := R.h }
  | .r1 => { x := p.width - R.y - R.h, y := R.x, w := R.h, h := R.w }
  | .r2 => { x := p.width - R.x - R.w, y := p.height - R.y - R.h, w := R.w, h := R.h }
  | .r3 => { x := R.y, y := p.height - R.x - R.w, w := R.h, h := R.w }

/-- `TR(r, m, R)` = RotR(r, MirR(m, r, R)) (R104). -/
def transformRect (p : Profile) (r : Rotation) (m : Bool) (R : Rect) : Rect :=
  rotateRect p r (mirrorRect p m r R)

/-- SET_ROTATION (R106). -/
def execSetRotation (r : Rotation) (m : Bool) (s : State) : Result :=
  s.perform (.setRotation r m) fun s => { s with rot := r, mirror := m }

end Sys2Proof.Machine
end

