-- ==== Sys2Proof/Machine/FrameBuffer.lean ====
section
/-!
DEFINITION. The pixel writer and FILL, SET_PIXEL, SET_PIXEL_PHYS (41_framebuffer.md R121 to R129).
-/

namespace Sys2Proof.Machine

/-- `BufRow(Y)`: the buffer row that holds physical row Y (R121). -/
def State.bufRow (s : State) (Y : Int) : Option Nat :=
  match s.cursor with
  | some n =>
    if 0 ≤ Y - s.profile.pageStart n ∧ Y - s.profile.pageStart n < s.profile.pageRows n then
      some (Y - s.profile.pageStart n).toNat
    else none
  | none => if 0 ≤ Y ∧ Y < min s.profile.pageHeight s.profile.height then some Y.toNat else none

/-- Set bit k of `FB[q][i]`. -/
def State.setInk (s : State) (q : Plane) (i k : Nat) : State := s.fbWrite q i (s.fbRead q i ||| 1#8 <<< k)

/-- Clear bit k of `FB[q][i]`. -/
def State.clearInk (s : State) (q : Plane) (i k : Nat) : State := s.fbWrite q i (s.fbRead q i &&& ~~~(1#8 <<< k))

/-- Write WHITE at byte i, bit k (R123). -/
def State.inkWhite (s : State) (i k : Nat) : State :=
  if s.profile.planes = 2 then (s.clearInk .black i k).clearInk .accent i k else s.clearInk .black i k

/-- Write BLACK at byte i, bit k (R124). -/
def State.inkBlack (s : State) (i k : Nat) : State :=
  if s.profile.planes = 2 then (s.setInk .black i k).clearInk .accent i k else s.setInk .black i k

/-- Write ACCENT at byte i, bit k (R125 with two planes, R126 with one). -/
def State.inkAccent (s : State) (i k : Nat) : State :=
  if s.profile.planes = 2 then (s.setInk .accent i k).clearInk .black i k
  else
    match s.profile.accentOnMono with
    | .black => s.inkBlack i k
    | .white => s.inkWhite i k
    | .ignore => s

/-- Write a colour at byte i, bit k. Code 3 never gets here: the command is refused first (R89, R285). -/
def State.ink (s : State) (c : Color) (i k : Nat) : State :=
  match c with
  | .white => s.inkWhite i k
  | .black => s.inkBlack i k
  | .accent => s.inkAccent i k
  | .reserved => s

/-- `PlotPhys(X, Y, c)` (R127). -/
def State.plotPhys (s : State) (X Y : Int) (c : Color) : State :=
  if X < 0 ∨ (s.profile.width : Int) ≤ X ∨ Y < 0 ∨ (s.profile.height : Int) ≤ Y then s
  else
    match s.bufRow Y with
    | none => s
    | some r => s.ink c (r * s.profile.bpr + (X / 8).toNat) (7 - (X % 8).toNat)

/-- The effect of FILL (R122). -/
def State.fillWith (s : State) (c : Color) : State :=
  match c with
  | .white => s.clearFB
  | .black => if s.profile.planes = 2 then (s.fbFill .black 0xFF#8).fbFill .accent 0x00#8 else s.fbFill .black 0xFF#8
  | .accent =>
    if s.profile.planes = 2 then (s.fbFill .black 0x00#8).fbFill .accent 0xFF#8
    else
      match s.profile.accentOnMono with
      | .black => s.fbFill .black 0xFF#8
      | .white => s.fbFill .black 0x00#8
      | .ignore => s
  | .reserved => s

/-- The effect of SET_PIXEL on a logical point (R129). -/
def State.plotLogical (s : State) (x y : Int) (c : Color) : State :=
  if x < 0 ∨ logicalWidth s.profile s.rot ≤ x ∨ y < 0 ∨ logicalHeight s.profile s.rot ≤ y then s
  else
    s.plotPhys (transformPoint s.profile s.rot s.mirror (x, y)).1 (transformPoint s.profile s.rot s.mirror (x, y)).2 c

/-- FILL (R122). -/
def execFill (c : Color) (s : State) : Result := s.perform (.fill c) fun s => s.fillWith c

/-- SET_PIXEL (R129). -/
def execSetPixel (c : Color) (s : State) : Result := s.perform (.setPixel c) fun s => s.plotLogical s.opX s.opY c

/-- SET_PIXEL_PHYS (R128). -/
def execSetPixelPhys (c : Color) (s : State) : Result :=
  s.perform (.setPixelPhys c) fun s => s.plotPhys s.opX s.opY c

end Sys2Proof.Machine
end

