-- ==== Sys2Proof/Machine/Pager.lean ====
section
/-!
DEFINITION. The pager, the frame-buffer slicer and the refresh state machine: BEGIN_FRAME and ADVANCE_PAGE (42_pager.md R145 to
R157).
-/

namespace Sys2Proof.Machine

/-- The mode of the current or last pass (R148, R155). -/
def State.passMode (s : State) : Mode := if s.passPartial = true then .partialMode else .full

/-- Latch the pass mode and the pass window (R145). -/
def State.latchPass (s : State) : State :=
  match s.winMode with
  | .full => { s with passPartial := false, passWin := fullRect s.profile }
  | .partialMode => { s with passPartial := true, passWin := s.win }

/-- `PageRect(n)` (R146). -/
def State.pageRect (s : State) (n : Nat) : Rect :=
  { x := s.passWin.x
    y := max s.passWin.y (s.profile.pageStart n)
    w := s.passWin.w
    h := max 0 (min (s.passWin.y + s.passWin.h) (s.profile.pageStart n + s.profile.pageRows n) -
      max s.passWin.y (s.profile.pageStart n)) }

/-- `PageByte(q, c, Y)` of resident page n: the frame-buffer slicer (R147). -/
def State.pageByte (s : State) (n : Nat) : ByteSource := fun q c Y =>
  s.bufRead q ((Y - s.profile.pageStart n) * s.profile.bpr + c)

/-- The plane a phase of a TWO_PASS profile streams (R44). -/
def Phase.plane : Phase → Plane
  | .first => .black
  | .second => .accent

/-- The pass start of a CONTINUOUS profile (R148, R149). -/
def State.startStream (s : State) : State :=
  match s.profile.stream with
  | .perPage => s
  | .continuous => (if s.passWin.isEmpty = true then s else s.setWindow s.passWin).emitCmd (s.profile.cmdWrite .black)

/-- The last part of BEGIN_FRAME: cursor 0, phase 0, blank buffer, CONT (R148). -/
def State.enterPass (s : State) : State := { ({ s with cursor := some 0, phase := .first }).clearFB with cont := true }

/-- The effect of BEGIN_FRAME (R148). -/
def State.beginPass (s : State) : State :=
  ((s.latchPass.initPanel s.latchPass.passMode).startStream).enterPass

/-- `StreamContinuous(R)` of page n (R152). -/
def State.streamContinuous (s : State) (n : Nat) : State :=
  if s.profile.twoPass = true then s.emitData (encPlain s.profile s.phase.plane (s.pageRect n) (s.pageByte n))
  else if s.profile.enc = .nibble then s.emitData (encNibble s.profile (s.pageRect n) (s.pageByte n))
  else s.emitData (encOne s.profile .black (s.pageRect n) (s.pageByte n))

/-- `StreamPage(n)` (R150, R151). -/
def State.streamPage (s : State) (n : Nat) : State :=
  if (s.pageRect n).isEmpty = true then s
  else
    match s.profile.stream with
    | .perPage => s.emitPlanes (s.pageRect n) (s.pageByte n)
    | .continuous => s.streamContinuous n

/-- `PhaseSwitch()` (R154). -/
def State.phaseSwitch (s : State) : State :=
  (({ s with phase := .second, cursor := some 0 }).emitCmd (s.profile.cmdWrite .accent)).clearFB

/-- `EndPass()` (R155). -/
def State.endPass (s : State) : State :=
  { (if s.passPartial = true then s.refresh .partialMode else (s.refresh .full).powerOffIfOn) with
    cursor := none, phase := .first }

/-- What follows the streaming of page n: the next page, the phase switch or the end of the pass (R153). -/
def State.leavePage (s : State) (n : Nat) : State :=
  if n + 1 < s.profile.pageCount then { ({ s with cursor := some (n + 1) }).clearFB with cont := true }
  else if s.profile.twoPass = true ∧ s.phase = .first then { s.phaseSwitch with cont := true }
  else { s.endPass with cont := false }

/-- The effect of ADVANCE_PAGE (R153, R156). -/
def State.advance (s : State) : State :=
  match s.cursor with
  | none => { s with cont := false }
  | some n => (s.streamPage n).leavePage n

/-- BEGIN_FRAME (R148, R157). -/
def execBeginFrame (s : State) : Result := s.perform .beginFrame fun s => s.beginPass

/-- ADVANCE_PAGE (R153). -/
def execAdvancePage (s : State) : Result := s.perform .advancePage fun s => s.advance

end Sys2Proof.Machine
end

