-- ==== Sys2Proof/Machine/Window.lean ====
section
/-!
DEFINITION. The update-window manager, clipper and byte-aligner: SET_FULL_WINDOW and SET_PARTIAL_WINDOW (44_window.md R230 to
R237).
-/

namespace Sys2Proof.Machine

/-- Clip steps 2 to 4: sizes, origin, extent (R233 to R235). -/
def clipRect (p : Profile) (R : Rect) : Rect :=
  { x := clamp R.x 0 p.width
    y := clamp R.y 0 p.height
    w := clamp (max R.w 0) 0 (p.width - clamp R.x 0 p.width)
    h := clamp (max R.h 0) 0 (p.height - clamp R.y 0 p.height) }

/-- Clip step 5: `Align(x3, w4)` (R237). -/
def alignRect (R : Rect) : Rect :=
  { R with x := floor8 R.x, w := if R.w = 0 then 0 else ceil8 (R.x + R.w) - floor8 R.x }

/-- The window applied for a request: transform, clip, align (R232 to R237). -/
def applyWindow (p : Profile) (r : Rotation) (m : Bool) (R : Rect) : Rect :=
  alignRect (clipRect p (transformRect p r m R))

/-- SET_FULL_WINDOW (R230). -/
def execSetFullWindow (s : State) : Result := s.perform .setFullWindow fun s => { s with winMode := .full }

/-- SET_PARTIAL_WINDOW (R236). -/
def execSetPartialWindow (s : State) : Result :=
  s.perform .setPartialWindow fun s =>
    { s with win := applyWindow s.profile s.rot s.mirror s.opRect, winMode := .partialMode }

end Sys2Proof.Machine
end

