-- ==== Sys2Proof/Machine/Dispatch.lean ====
section
/-! DEFINITION. One arm per command (30_encoding.md R87). -/

namespace Sys2Proof.Machine

def exec (i : Instr) (s : State) : Host.Outcome State Fault Refusal :=
  match i with
  | .init => Sys2Proof.Machine.execInit s
  | .setRotation r m => Sys2Proof.Machine.execSetRotation r m s
  | .setFullWindow => Sys2Proof.Machine.execSetFullWindow s
  | .setPartialWindow => Sys2Proof.Machine.execSetPartialWindow s
  | .fill c => Sys2Proof.Machine.execFill c s
  | .setPixel c => Sys2Proof.Machine.execSetPixel c s
  | .setPixelPhys c => Sys2Proof.Machine.execSetPixelPhys c s
  | .beginFrame => Sys2Proof.Machine.execBeginFrame s
  | .advancePage => Sys2Proof.Machine.execAdvancePage s
  | .powerOff => Sys2Proof.Machine.execPowerOff s
  | .clearPanel b a => Sys2Proof.Machine.execClearPanel b a s
  | .writeImage f => Sys2Proof.Machine.execWriteImage f s
  | .drawImage f => Sys2Proof.Machine.execDrawImage f s

end Sys2Proof.Machine
end

