-- ==== Sys2Proof/Machine/Registers.lean ====
section
/-!
DEFINITION. The host register file (10_state.md R23 to R42): names, offsets and the value each register reads as.
-/

namespace Sys2Proof.Machine

/-- The registers of the window (R23). -/
inductive Reg where
  | cmd | argXY | argWH | argSrc0 | argSrc1 | status | diag | page | geom | winXY | winWH | busyUs | panel | pcfg | capr
deriving DecidableEq, Repr

/-- The byte offset of a register (R23). -/
def Reg.offset : Reg → Nat
  | .cmd => 0x00
  | .argXY => 0x04
  | .argWH => 0x08
  | .argSrc0 => 0x0C
  | .argSrc1 => 0x10
  | .status => 0x14
  | .diag => 0x18
  | .page => 0x1C
  | .geom => 0x20
  | .winXY => 0x24
  | .winWH => 0x28
  | .busyUs => 0x2C
  | .panel => 0x30
  | .pcfg => 0x34
  | .capr => 0x38

/-- The address of a register on the platform's bus (R71). -/
def Reg.address (r : Reg) : Nat := Config.engineBase + r.offset

/-- All registers, in order of offset (R23). -/
def allRegs : List Reg :=
  [.cmd, .argXY, .argWH, .argSrc0, .argSrc1, .status, .diag, .page, .geom, .winXY, .winWH, .busyUs, .panel, .pcfg, .capr]

/-- The register at an offset. 0x3C is reserved (R42); every offset past the 64-byte window (0x40 and on) is treated so too, which
is the model's reading of R42 and R71: DEDUCED (log 18). -/
def regAt (off : Nat) : Option Reg := allRegs.find? fun r => r.offset == off

/-- ENC as a register field (R40). -/
def Encoding.code : Encoding → BitVec 2
  | .plain => 0#2
  | .grey4 => 1#2
  | .nibble => 2#2

/-- WINENC as a register field (R40). -/
def WinEncoding.code : WinEncoding → BitVec 2
  | .abs => 0#2
  | .entry => 1#2
  | .none => 2#2

/-- STREAM as a register field (R40). -/
def Stream.code : Stream → BitVec 1
  | .perPage => 0#1
  | .continuous => 1#1

/-- The rotation as a register field (R35). -/
def Rotation.code : Rotation → BitVec 2
  | .r0 => 0#2
  | .r1 => 1#2
  | .r2 => 2#2
  | .r3 => 3#2

/-- The cursor as s16, -1 for no pass (R34). -/
def cursorField : Option Nat → BitVec 16
  | none => 0xFFFF#16
  | some n => BitVec.ofNat 16 n

/-- PAGE (R34). -/
def State.pageReg (s : State) : Word := BitVec.ofNat 16 s.profile.pageCount ++ cursorField s.cursor

/-- GEOM (R35). -/
def State.geomReg (s : State) : Word :=
  0#13 ++ BitVec.ofBool s.mirror ++ Rotation.code s.rot ++ BitVec.ofNat 16 (min s.profile.pageHeight 0xFFFF)

/-- WIN_XY (R36). -/
def State.winXYReg (s : State) : Word :=
  match s.winMode with
  | .full => 0#32
  | .partialMode => BitVec.ofInt 16 s.win.y ++ BitVec.ofInt 16 s.win.x

/-- WIN_WH (R37). -/
def State.winWHReg (s : State) : Word :=
  match s.winMode with
  | .full => BitVec.ofNat 16 s.profile.height ++ BitVec.ofNat 16 s.profile.width
  | .partialMode => BitVec.ofInt 16 s.win.h ++ BitVec.ofInt 16 s.win.w

/-- PANEL (R39). -/
def State.panelReg (s : State) : Word := BitVec.ofNat 16 s.profile.height ++ BitVec.ofNat 16 s.profile.width

/-- PCFG (R40). -/
def State.pcfgReg (s : State) : Word :=
  0#20 ++ BitVec.ofBool s.profile.invAccent ++ BitVec.ofBool s.profile.invBlack ++
    BitVec.ofBool s.profile.wakeNeedsReset ++ BitVec.ofBool s.profile.busyLevel ++ WinEncoding.code s.profile.winEnc ++
    Stream.code s.profile.stream ++ BitVec.ofBool s.profile.partialOk ++ BitVec.ofBool s.profile.twoPass ++
    Encoding.code s.profile.enc ++ BitVec.ofNat 1 (s.profile.planes - 1)

/-- What a register reads as (R24 to R41). CAPR shows CAP as a u32 (R41); no rule bounds CAP from above (R6, R12), and for a CAP of
2^32 or more the register keeps the low 32 bits: DESIGN CHOICE (log 22). -/
def State.regValue (s : State) : Reg → Word
  | .cmd => 0#32
  | .argXY => s.argXY
  | .argWH => s.argWH
  | .argSrc0 => s.argSrc0
  | .argSrc1 => s.argSrc1
  | .status => s.status
  | .diag => 0#26 ++ s.diag
  | .page => s.pageReg
  | .geom => s.geomReg
  | .winXY => s.winXYReg
  | .winWH => s.winWHReg
  | .busyUs => s.lastBusyUs
  | .panel => s.panelReg
  | .pcfg => s.pcfgReg
  | .capr => BitVec.ofNat 32 s.profile.cap

/-- An access is seen only if it is 32 bits wide and aligned (R69). -/
def validAccess (width off : Nat) : Bool := width == 4 && off % 4 == 0

/-- `RegRead(off)`, and 0 for a reserved offset or an invalid access (R42, R69, R80). -/
def State.busRead (s : State) (width off : Nat) : Word :=
  if validAccess width off = true then
    match regAt off with
    | some r => s.regValue r
    | none => 0#32
  else 0#32

/-- Issue command word v: set BUSY and latch the operands (R49, R82). -/
def State.issue (s : State) (v : Word) : State :=
  { s with
    busy := true
    op := { cmd := v, argXY := s.argXY, argWH := s.argWH, argSrc0 := s.argSrc0, argSrc1 := s.argSrc1 } }

/-- A CMD write: issue, or drop with OVERRUN while busy (R24, R81). -/
def State.writeCmd (s : State) (v : Word) : State := if s.busy = true then s.raise .overrun else s.issue v

/-- A write to a register (R81). -/
def State.writeReg (s : State) (r : Reg) (v : Word) : State :=
  match r with
  | .cmd => s.writeCmd v
  | .argXY => { s with argXY := v }
  | .argWH => { s with argWH := v }
  | .argSrc0 => { s with argSrc0 := v }
  | .argSrc1 => { s with argSrc1 := v }
  | .diag => s.clearDiag v
  | .status => s
  | .page => s
  | .geom => s
  | .winXY => s
  | .winWH => s
  | .busyUs => s
  | .panel => s
  | .pcfg => s
  | .capr => s

/-- `RegWrite(off, v)`; no effect for a reserved offset or an invalid access (R42, R69, R81). -/
def State.busWrite (s : State) (width off : Nat) (v : Word) : State :=
  if validAccess width off = true then
    match regAt off with
    | some r => s.writeReg r v
    | none => s
  else s

/-- A host store of bitmap byte b (R64); a store while a command executes makes the byte a racing one (R75). -/
def State.storeSource (s : State) (sp : Space) (addr : Word) (b : Byte) : State :=
  { s.withSource sp ((s.source sp).insert addr.toNat b) with
    raced := if s.busy then (sp, addr.toNat) :: s.raced else s.raced }

end Sys2Proof.Machine
end

