-- ==== Sys2Proof/Machine/Engine.lean ====
section
/-!
DEFINITION. The engine's turn, the hardware reset, and one move of the machine (10_state.md R20, R51; 30_encoding.md R82, R88;
70_reset_and_hazards.md R310; 00_scope.md R12).
-/

namespace Sys2Proof.Machine

/-- Commit: BUSY falls, and the command's races end with it (R51, R75). -/
def State.commit (s : State) : State := { s with busy := false, raced := [] }

/-- Commit a command's answer. -/
def commitResult : Result → Result
  | .next s => .next s.commit
  | .fault r => .fault r
  | .refused r => .refused r

/-- Execute the latched command word: decode OP; a reserved OP does nothing but BADCMD (R82, R88, R285 step 1). -/
def State.runLatched (s : State) : Result :=
  match decode s.op.cmd with
  | .ok i => exec i s
  | .error _ => .next (s.raise .badcmd)

/-- The engine's turn: a command under way runs to completion and commits; an idle engine waits (R51, R311). -/
def State.engineMove (s : State) : Result := if s.busy = true then commitResult s.runLatched else .next s

/-- The wire events the command under way emits, all of them; none when idle. -/
def State.pendingEvents (s : State) : List WireEvent :=
  match s.engineMove with
  | .next t => t.wire.drop s.wire.length
  | .fault _ => []
  | .refused _ => []

/-- The draw number after the command under way, so that a cut command's free values are not used again. -/
def State.pendingDraws (s : State) : Nat :=
  match s.engineMove with
  | .next t => t.draws
  | .fault _ => s.draws
  | .refused _ => s.draws

/-- The hardware reset (R310): all engine state takes its reset value; of a command under way the first `sent` events stay
sent. What belongs to the outside world stays, but for the samples lined up for the cut command (log 8).
The frame buffer and the latch take the model's reset values (logs 2 and 3). The reset takes no time, so no host access falls
inside it (log 23). -/
def State.hardReset (s : State) (sent : Nat) : State :=
  { State.resetFor s.profile with
    wire := s.wire ++ s.pendingEvents.take sent
    srcData := s.srcData
    srcProg := s.srcProg
    draws := s.pendingDraws
    inputs := s.inputs
    readData := s.readData }

/-- What one input does. -/
def State.accept (s : State) : Input → Result
  | .hostWrite width off v => .next (s.busWrite width off v)
  | .hostRead width off => .next { s with readData := s.busRead width off }
  | .hostStore sp addr b => .next (s.storeSource sp addr b)
  | .engineTurn => s.engineMove
  | .hardReset sent => .next (s.hardReset sent)

/-- One move: the next input, or the engine when no input is lined up. -/
def State.move (s : State) : Result :=
  match s.inputs with
  | [] => s.engineMove
  | i :: rest => ({ s with inputs := rest }).accept i

/-- Build an engine from a profile: only an admitted profile gives one (R12, U12). -/
def State.build (p : Profile) : Result := if p.wf = true then .next (State.resetFor p) else .refused .illFormedProfile

end Sys2Proof.Machine
end

