-- ==== Sys2Proof/Machine/Step.lean ====
section
/-! DEFINITION. One step, and the placing of a command as the one the next step runs. -/

namespace Sys2Proof.Machine

/-- One step of the machine: the next input of the outside world, or the engine's turn (R20, R51). -/
def step (s : State) : Host.Outcome State Fault Refusal := s.move

/-- The accepted CMD write of the word w (R82) with the engine's turn next: the very next step decodes and runs it (log 4). -/
def State.withFetchWord (s : State) (nbits w : Nat) : State :=
  { s.issue (BitVec.ofNat 32 (w % 2 ^ nbits)) with inputs := .engineTurn :: s.inputs }

end Sys2Proof.Machine
end

