-- ==== Sys2Proof/Machine/Trace.lean ====
section
/-!
DEFINITION. What an observer of the wire may see of a piece of a command (00_scope.md R16, 43_controller.md R180, R190): the
expected events in order, where the answer of each busy wait is left open under the constraint of R190. The statements speak of
traces in these terms; no meaning uses them.
-/

namespace Sys2Proof.Machine

/-- One expected wire event: a fixed one, or a busy wait with any answer R190 admits. -/
inductive Expected where
  | event (e : WireEvent)
  | wait
deriving DecidableEq, Repr

/-- An event is an admissible answer to what was expected (R190: TIMEOUT only at or past the ceiling). -/
def Expected.admits (p : Profile) : Expected → WireEvent → Prop
  | .event e, e' => e' = e
  | .wait, e' => ∃ o el, e' = .busy o el ∧ (o = .timeout → p.busyTimeoutUs ≤ el)

/-- A data burst; an empty one is no event (R180). -/
def expectData (bs : List Byte) : List Expected := if bs = [] then [] else [.event (.data bs)]

/-- A command byte. -/
def expectCmd (b : Byte) : List Expected := [.event (.cmd b)]

/-- A command byte followed by a data burst. -/
def expectPair (b : Byte) (bs : List Byte) : List Expected := expectCmd b ++ expectData bs

/-- The reset pulse (R186). -/
def expectReset (p : Profile) : List Expected := [.event (.reset p.rstLowMs p.rstHighMs)]

/-- The LUT upload of a mode: LUT_FULL or LUT_PARTIAL, segment by segment (R192). -/
def expectLut (p : Profile) (m : Mode) : List Expected :=
  match m with
  | .full => p.lutFull.flatMap fun g => expectPair g.cmd g.bytes
  | .partialMode => p.lutPartial.flatMap fun g => expectPair g.cmd g.bytes

/-- One sequence item (R191). -/
def expectItem (p : Profile) : SeqItem → List Expected
  | .cmd b => expectCmd b
  | .data bs => expectData bs
  | .waitBusy => [.wait]
  | .delay ms => [.event (.delay ms)]
  | .resetPulse => expectReset p
  | .lut m => expectLut p m

/-- A sequence (R191). -/
def expectSeq (p : Profile) (seq : List SeqItem) : List Expected := seq.flatMap (expectItem p)

/-- `InitPanel(mode)` from the given power state: SEQ_INIT_FULL or SEQ_INIT_PARTIAL (R193, R194). -/
def expectInit (p : Profile) (needReset pwr : Bool) (m : Mode) : List Expected :=
  (if needReset then expectReset p else []) ++
    (match m with
      | .full => expectSeq p p.seqInitFull
      | .partialMode => expectSeq p p.seqInitPartial) ++
    (if pwr then [] else expectSeq p p.seqPowerOn)

/-- `SetWindow(R)` (R197 to R202). -/
def expectWindow (p : Profile) (R : Rect) : List Expected :=
  match p.winEnc with
  | .abs => expectPair p.cmdWinAbs (absBytes R ++ p.absSuffix)
  | .entry =>
    expectPair p.cmdEntry [p.entryVal] ++
    expectPair p.cmdXRange [columnByte R.x, columnByte (R.x + R.w - 1)] ++
    expectPair p.cmdYRange [lowByte R.y, highByte R.y, lowByte (R.y + R.h - 1), highByte (R.y + R.h - 1)] ++
    expectPair p.cmdXPtr [columnByte R.x] ++
    expectPair p.cmdYPtr [lowByte R.y, highByte R.y]
  | .none => []

/-- `WriteRect(q, R, bytes)`: the window, CMD_WRITE of the plane, the bytes (R208). -/
def expectWrite (p : Profile) (q : Plane) (R : Rect) (bytes : List Byte) : List Expected :=
  expectWindow p R ++
    (match q with
      | .black => expectCmd p.cmdWriteBlack
      | .accent => expectCmd p.cmdWriteAccent) ++
    expectData bytes

/-- The bytes of a one-plane stream: GREY4 or PLAIN (R203). -/
def oneStream (p : Profile) (R : Rect) (src : ByteSource) : List Byte :=
  if p.enc = .grey4 then encGrey p R src else encPlain p .black R src

/-- `EmitPlanes(R, src)` (R265, R151). -/
def expectPlanes (p : Profile) (R : Rect) (src : ByteSource) : List Expected :=
  if p.enc = .nibble then expectWrite p .black R (encNibble p R src)
  else if p.planes = 1 then expectWrite p .black R (oneStream p R src)
  else expectWrite p .black R (encPlain p .black R src) ++ expectWrite p .accent R (encPlain p .accent R src)

/-- The rectangle of the pass window that lies on page n, written out from R142 and R146. -/
def pageRectByRule (s : State) (n : Nat) : Rect :=
  let ps : Int := (n : Int) * s.profile.pageHeight
  let pe : Int := ps + min (s.profile.pageHeight : Int) (s.profile.height - ps)
  let y0 := max s.passWin.y ps
  let y1 := min (s.passWin.y + s.passWin.h) pe
  ⟨s.passWin.x, y0, s.passWin.w, max 0 (y1 - y0)⟩

/-- The buffer byte of plane q that page n streams at (c, Y), written out from R144 and R147. -/
def pageByteByRule (s : State) (n : Nat) : ByteSource := fun q c Y =>
  let i : Int := (Y - (n : Int) * s.profile.pageHeight) * s.profile.bpr + c
  if 0 ≤ i ∧ i < s.profile.cap then
    match q with
    | .black => s.fbBlack.readByte i.toNat
    | .accent => s.fbAccent.readByte i.toNat
  else 0x00#8

/-- `StreamPage(n)` (R150 to R152); in a TWO_PASS pass phase 0 streams the black plane and phase 1 the accent plane (R44). -/
def expectPage (s : State) (n : Nat) : List Expected :=
  if (pageRectByRule s n).w = 0 ∨ (pageRectByRule s n).h = 0 then []
  else if s.profile.stream = .perPage then expectPlanes s.profile (pageRectByRule s n) (pageByteByRule s n)
  else if s.profile.twoPass = true then
    match s.phase with
    | .first => expectData (encPlain s.profile .black (pageRectByRule s n) (pageByteByRule s n))
    | .second => expectData (encPlain s.profile .accent (pageRectByRule s n) (pageByteByRule s n))
  else if s.profile.enc = .nibble then expectData (encNibble s.profile (pageRectByRule s n) (pageByteByRule s n))
  else expectData (oneStream s.profile (pageRectByRule s n) (pageByteByRule s n))

/-- A wire event is a busy wait that timed out. -/
def WireEvent.timedOut : WireEvent → Bool
  | .busy .timeout _ => true
  | .busy .ready _ => false
  | .cmd _ => false
  | .data _ => false
  | .reset _ _ => false
  | .delay _ => false

/-- The elapsed record after an event (R189). -/
def WireEvent.busyUs (u : Word) : WireEvent → Word
  | .busy _ el => saturate32 el
  | .cmd _ => u
  | .data _ => u
  | .reset _ _ => u
  | .delay _ => u

/-- The DIAG bit TIMEOUT as a list of events leaves it: set if any of them timed out (R187, R284). -/
def timeoutBits (evs : List WireEvent) : BitVec 6 := if evs.any WireEvent.timedOut = true then 1#6 else 0#6

/-- The pins after a list of events (R184). -/
def pinsAfter (pins : Pins) (evs : List WireEvent) : Pins :=
  evs.foldl (fun q e => e.pinActions.foldl Pins.after q) pins

/-- `evs` are the events the wire carries from `s` to `t`, they are as expected, and DIAG, BUSY_US and the pins say what they
say (R180, R184, R187, R189, R190). -/
structure Carries (s t : State) (exp : List Expected) (evs : List WireEvent) : Prop where
  admitted : List.Forall₂ (Expected.admits s.profile) exp evs
  wire : t.wire = s.wire ++ evs
  diag : t.diag = s.diag ||| timeoutBits evs
  busyUs : t.lastBusyUs = evs.foldl WireEvent.busyUs s.lastBusyUs
  pins : t.pins = pinsAfter s.pins evs

/-- From `s` to `t` the wire carries just what is expected. -/
def Observed (s t : State) (exp : List Expected) : Prop := ∃ evs, Carries s t exp evs

/-- `t` with everything of the panel side that `Observed` speaks of, and the samples and draws it used up, put into `s`: equality
with `t` says that nothing else changed. -/
def State.withPanelSide (s t : State) : State :=
  { s with
    wire := t.wire, pins := t.pins, diag := t.diag, lastBusyUs := t.lastBusyUs, polls := t.polls, draws := t.draws }

end Sys2Proof.Machine
end

