-- ==== Sys2Proof/Safety.lean ====
section
/-!
DEFINITION. What every state of a running engine satisfies: the invariants the spec's rules give its state, in the terms the
statements use. No state is unsafe in the sense of a fault: the engine has none (60_exceptions.md R280).
-/

namespace Sys2Proof.Machine

/-- The window invariants of R237: byte-aligned, non-negative, inside the panel. -/
structure Rect.inPanel (p : Profile) (R : Rect) : Prop where
  x_nonneg : 0 ≤ R.x
  x_aligned : R.x % 8 = 0
  w_nonneg : 0 ≤ R.w
  w_aligned : R.w % 8 = 0
  x_end : R.x + R.w ≤ p.width
  y_nonneg : 0 ≤ R.y
  h_nonneg : 0 ≤ R.h
  y_end : R.y + R.h ≤ p.height

/-- The pager's part: a committed cursor names a page (R43), the phase is 0 outside a pass and in every pass of a profile
without TWO_PASS (R44), a pass runs only after INIT (R312). -/
structure State.pagerOk (s : State) : Prop where
  cursor_page : ∀ n, s.cursor = some n → n < s.profile.pageCount
  second_active : s.phase = .second → s.cursor ≠ none ∧ s.profile.twoPass = true
  active_inited : s.cursor ≠ none → s.inited = true

/-- The windows' part (R45, R145, R237): both windows lie in the panel, a full pass covers the panel, and only a profile with
PARTIAL_OK is ever in a partial mode (R236). -/
structure State.windowsOk (s : State) : Prop where
  win_in : s.win.inPanel s.profile
  passWin_in : s.passWin.inPanel s.profile
  full_pass : s.passPartial = false → s.passWin = fullRect s.profile
  partial_win : s.winMode = .partialMode → s.profile.partialOk = true
  partial_pass : s.passPartial = true → s.profile.partialOk = true

/-- The power states of R296: (1, 1) never occurs. -/
def State.powerOk (s : State) : Prop := ¬ (s.pwr = true ∧ s.needReset = true)

/-- The pins between commands (R184): CS and RST are 1. -/
def State.pinsIdle (s : State) : Prop := s.pins.cs = true ∧ s.pins.rst = true

/-- The memories are in canonical form (R48, R60, R64). -/
structure State.memoryOk (s : State) : Prop where
  black : s.fbBlack.wfPlane s.profile.cap
  accent : s.fbAccent.wfPlane s.profile.cap
  mono : s.profile.planes = 1 → s.fbAccent = []
  data : s.srcData.wfSource
  prog : s.srcProg.wfSource

/-- No pixel has both plane bits set (R62, R130 (b)). -/
def State.singleInk (s : State) : Prop := ∀ i, s.fbRead .black i &&& s.fbRead .accent i = 0x00#8

/-- The whole invariant of an engine built from an admitted profile. -/
structure State.Inv (s : State) : Prop where
  profile_wf : s.profile.wf = true
  pager : s.pagerOk
  windows : s.windowsOk
  power : s.powerOk
  pins : s.pinsIdle
  memory : s.memoryOk
  ink : s.singleInk

/-- The state between commands that an idle engine shows (R30): BUSY is 0 and no byte is racing. -/
def State.idle (s : State) : Prop := s.busy = false ∧ s.raced = []

end Sys2Proof.Machine
end

