-- ==== Sys2Proof/Certificates/Slice0/Obligations.lean ====
section
/-!
DEFINITION. The statements for the provers. Each is `def Obligations.<Name> : Prop`; the helpers before them write a rule of
the spec out in its own terms, apart from the meanings.
-/

namespace Sys2Proof.Machine

/-- The OP column of R87. -/
def definedOpcodes : List Byte :=
  [0x01, 0x02, 0x03, 0x04, 0x10, 0x11, 0x12, 0x20, 0x21, 0x30, 0x40, 0x41, 0x42]

/-- The bits a command's format names, OP among them (R83). -/
def namedBits : Instr → Word
  | .init => 0x000000FF#32
  | .setRotation _ _ => 0x000007FF#32
  | .setFullWindow => 0x000000FF#32
  | .setPartialWindow => 0x000000FF#32
  | .fill _ => 0x000003FF#32
  | .setPixel _ => 0x000003FF#32
  | .setPixelPhys _ => 0x000003FF#32
  | .beginFrame => 0x000000FF#32
  | .advancePage => 0x000000FF#32
  | .powerOff => 0x000000FF#32
  | .clearPanel _ _ => 0xFFFF00FF#32
  | .writeImage _ => 0x00000FFF#32
  | .drawImage _ => 0x00000FFF#32

/-- The refusal checks of R285 read off the latched command word, in their order: the DIAG mask of the first that holds. -/
def refusalByRule (s : State) : Option (BitVec 6) :=
  let op := s.op.cmd.extractLsb' 0 8
  let x := (s.op.argXY.extractLsb' 0 16).toInt
  let y := (s.op.argXY.extractLsb' 16 16).toInt
  let w := (s.op.argWH.extractLsb' 0 16).toInt
  let h := (s.op.argWH.extractLsb' 16 16).toInt
  if op ∉ definedOpcodes then some 0x04#6
  else if s.inited = false ∧ op ≠ 0x01#8 then some 0x10#6
  else if (op = 0x10#8 ∨ op = 0x11#8 ∨ op = 0x12#8) ∧ s.op.cmd.extractLsb' 8 2 = 3#2 then some 0x04#6
  else if (op = 0x03#8 ∨ op = 0x04#8) ∧ s.cursor ≠ none then some 0x20#6
  else if op = 0x04#8 ∧ s.profile.partialOk = false then some 0x02#6
  else if (op = 0x41#8 ∨ op = 0x42#8) ∧ s.profile.partialOk = false ∧
      ¬ (x = 0 ∧ y = 0 ∧ w = s.profile.width ∧ h = s.profile.height) then some 0x02#6
  else none

/-- The admitted profiles, as R12 lists them (a) to (l), with R11's non-empty DATA items. -/
def admitted (p : Profile) : Prop :=
  (p.width % 8 = 0 ∧ 8 ≤ p.width ∧ p.width ≤ 32760 ∧ 1 ≤ p.height ∧ p.height ≤ 32767) ∧
  p.bpr = p.width / 8 ∧
  (p.cap % p.bpr = 0 ∧ p.bpr ≤ p.cap) ∧
  (p.planes = 1 ∨ p.planes = 2) ∧
  (p.enc = .grey4 → p.planes = 1) ∧
  (p.enc = .nibble → p.planes = 2) ∧
  (p.twoPass = true → p.planes = 2 ∧ p.enc = .plain ∧ p.stream = .continuous) ∧
  (p.planes = 2 ∧ p.enc = .plain ∧ p.twoPass = false → p.stream = .perPage) ∧
  (p.winEnc = .none → p.partialOk = false ∧ p.stream = .continuous) ∧
  (p.nibBlack.toNat < 16 ∧ p.nibAccent.toNat < 16 ∧ p.nibWhite.toNat < 16) ∧
  (∀ m, .lut m ∉ p.seqPowerOn ∧ .lut m ∉ p.seqPowerOff ∧ .lut m ∉ p.seqRefreshFull ∧ .lut m ∉ p.seqRefreshPartial) ∧
  (p.winEnc = .entry → p.width ≤ 2048) ∧
  (.data [] ∉ p.seqInitFull ∧ .data [] ∉ p.seqInitPartial ∧ .data [] ∉ p.seqPowerOn ∧ .data [] ∉ p.seqPowerOff ∧
    .data [] ∉ p.seqRefreshFull ∧ .data [] ∉ p.seqRefreshPartial)

/-- The byte index and the bit of physical pixel (X, Y) in the buffer; none when it is outside the panel or not in the rows the
buffer holds (R61, R121, R127). -/
def pixelSite (s : State) (X Y : Int) : Option (Nat × Nat) :=
  let r : Int :=
    match s.cursor with
    | some n => Y - n * s.profile.pageHeight
    | none => Y
  let rows : Int :=
    match s.cursor with
    | some n => min s.profile.pageHeight (s.profile.height - n * s.profile.pageHeight)
    | none => min s.profile.pageHeight s.profile.height
  if 0 ≤ X ∧ X < s.profile.width ∧ 0 ≤ Y ∧ Y < s.profile.height ∧ 0 ≤ r ∧ r < rows then
    some ((r * s.profile.bpr + X / 8).toNat, (7 - X % 8).toNat)
  else none

/-- The bit of plane q at a pixel after a colour is written there (R123 to R126). -/
def inkAfter (p : Profile) (c : Color) (q : Plane) (old : Bool) : Bool :=
  match c, q with
  | .white, .black => false
  | .white, .accent => if p.planes = 2 then false else old
  | .black, .black => true
  | .black, .accent => if p.planes = 2 then false else old
  | .accent, .black =>
    if p.planes = 2 then false
    else
      match p.accentOnMono with
      | .black => true
      | .white => false
      | .ignore => old
  | .accent, .accent => if p.planes = 2 then true else old
  | .reserved, _ => old

/-- From s to t, colour c was written at physical pixel (X, Y), and nothing else changed: every other bit of both planes reads
as before, and so does every other field (R127, R130 (c), (d)). -/
def PixelWritten (s t : State) (X Y : Int) (c : Color) : Prop :=
  t = { s with fbBlack := t.fbBlack, fbAccent := t.fbAccent } ∧
  (∀ q i k, k < 8 → (t.fbRead q i).getLsbD k =
    if pixelSite s X Y = some (i, k) then inkAfter s.profile c q ((s.fbRead q i).getLsbD k)
    else (s.fbRead q i).getLsbD k) ∧
  (pixelSite s X Y = none → t = s)

/-- The bytes of a plane are all v (R122). -/
def planeIs (t : State) (q : Plane) (v : Byte) : Prop := ∀ i, i < t.profile.cap → t.fbRead q i = v

/-- Both planes read 0x00 everywhere (R120). -/
def blankBuffer (t : State) : Prop := ∀ q i, t.fbRead q i = 0x00#8

/-- Whether a sequence holds a reset pulse, which clears `S.needReset` (R46, R186). -/
def hasPulse (seq : List SeqItem) : Bool := seq.any fun i => i == .resetPulse

/-- The pass mode and window that BEGIN_FRAME latches (R145). -/
def latchedWindow (s : State) : Rect :=
  if s.winMode = .partialMode then s.win else ⟨0, 0, s.profile.width, s.profile.height⟩

/-- The mode of the pass that BEGIN_FRAME starts (R145, R148). -/
def latchedMode (s : State) : Mode := if s.winMode = .partialMode then .partialMode else .full

/-- ADVANCE_PAGE issued k times. -/
def advanceTimes : Nat → State → Option State
  | 0, s => some s
  | k + 1, s =>
    match exec .advancePage s with
    | .next t => advanceTimes k t
    | .fault _ => none
    | .refused _ => none

/-- The point lies in the rectangle. -/
def Rect.has (R : Rect) (X Y : Int) : Prop := R.x ≤ X ∧ X < R.x + R.w ∧ R.y ≤ Y ∧ Y < R.y + R.h

/-- The rectangle operand read off the latched registers (R84, R260). -/
def operandRect (s : State) : Rect :=
  ⟨(s.op.argXY.extractLsb' 0 16).toInt, (s.op.argXY.extractLsb' 16 16).toInt,
   (s.op.argWH.extractLsb' 0 16).toInt, (s.op.argWH.extractLsb' 16 16).toInt⟩

/-- The logical width, written out from R100. -/
def widthByRule (p : Profile) (r : Rotation) : Int := if r = .r1 ∨ r = .r3 then p.height else p.width

/-- The logical height, written out from R100. -/
def heightByRule (p : Profile) (r : Rotation) : Int := if r = .r1 ∨ r = .r3 then p.width else p.height

/-- The physical point of a logical point, written out from R101 and R102. -/
def pointByRule (p : Profile) (r : Rotation) (m : Bool) (x y : Int) : Int × Int :=
  let x' := if m then widthByRule p r - 1 - x else x
  match r with
  | .r0 => (x', y)
  | .r1 => (p.width - 1 - y, x')
  | .r2 => (p.width - 1 - x', p.height - 1 - y)
  | .r3 => (y, p.height - 1 - x')

/-- The physical rectangle of a logical rectangle, written out from R103 and R104. -/
def rectByRule (p : Profile) (r : Rotation) (m : Bool) (R : Rect) : Rect :=
  let x := if m then widthByRule p r - R.x - R.w else R.x
  match r with
  | .r0 => ⟨x, R.y, R.w, R.h⟩
  | .r1 => ⟨p.width - R.y - R.h, x, R.h, R.w⟩
  | .r2 => ⟨p.width - x - R.w, p.height - R.y - R.h, R.w, R.h⟩
  | .r3 => ⟨R.y, p.height - x - R.w, R.h, R.w⟩

/-- `imgMode` (R253). -/
def imageMode (p : Profile) : Mode := if p.partialOk = true then .partialMode else .full

/-- What an image command sends before its refresh: the init, then the clipped rectangle of every plane (R262). -/
def expectImage (s : State) (d : Nat) (f : ImageFlags) : List Expected :=
  expectInit s.profile s.needReset s.pwr (imageMode s.profile) ++
    (if (imgWindow s.profile (operandRect s)).w = 0 ∨ (imgWindow s.profile (operandRect s)).h = 0 then []
     else expectPlanes s.profile (imgWindow s.profile (operandRect s)) (({ s with draws := d }).imgByte f))

/-- A wire event without the answer of its busy wait. -/
def forgetAnswer : WireEvent → WireEvent
  | .busy _ _ => .busy .ready 0
  | .cmd b => .cmd b
  | .data bs => .data bs
  | .reset lo hi => .reset lo hi
  | .delay ms => .delay ms

/-- The committed answer of a command (R51, R82). -/
def afterCommand : Result → Result
  | .next t => .next { t with busy := false, raced := [] }
  | .fault r => .fault r
  | .refused r => .refused r

end Sys2Proof.Machine

open Sys2Proof Sys2Proof.Machine

/-! ## Encoding -/

/-- The encoded examples of R94 decode to the commands they stand for, and encode back. -/
def Obligations.SpecExampleWordsDecode : Prop :=
  (decode 0x00000001#32 = .ok .init ∧ encode .init = 0x00000001#32) ∧
  (decode 0x00000502#32 = .ok (.setRotation .r1 true) ∧ encode (.setRotation .r1 true) = 0x00000502#32) ∧
  (decode 0x00000211#32 = .ok (.setPixel .accent) ∧ encode (.setPixel .accent) = 0x00000211#32) ∧
  (decode 0x00FF0040#32 = .ok (.clearPanel 0xFF 0x00) ∧ encode (.clearPanel 0xFF 0x00) = 0x00FF0040#32) ∧
  (decode 0x00000D41#32 = .ok (.writeImage ⟨true, false, true, true⟩) ∧
    encode (.writeImage ⟨true, false, true, true⟩) = 0x00000D41#32) ∧
  (decode 0x00000021#32 = .ok .advancePage ∧ encode .advancePage = 0x00000021#32)

/-- Decoding an encoded command gives it back, for every command and every operand value (R82, R83, R87). -/
def Obligations.DecodeOfEncodeIsTheCommand : Prop := ∀ i : Instr, decode (encode i) = .ok i

/-- A word's named bits are its command's encoding, and the bits its format does not name never matter (R83, R87, R90). -/
def Obligations.OnlyNamedBitsMatter : Prop :=
  ∀ (v : Word) (i : Instr), decode v = .ok i →
    v &&& namedBits i = encode i ∧ ∀ u : Word, u &&& namedBits i = v &&& namedBits i → decode u = .ok i

/-! ## Issuing a command -/

/-- The engine's turn runs the decoded command and commits it (R51, R82), whether the turn is lined up or no input is left.
`inputs` is the model's own field (log 4). -/
def Obligations.StepRunsTheDecodedCommand : Prop :=
  ∀ (s : State) (i : Instr), s.busy = true → decode s.op.cmd = .ok i →
    (s.inputs = [] → step s = afterCommand (exec i s)) ∧
    (∀ rest, s.inputs = .engineTurn :: rest → step s = afterCommand (exec i { s with inputs := rest }))

/-- An idle engine with nothing lined up waits: nothing changes (R311). -/
def Obligations.IdleEngineWaits : Prop :=
  ∀ s : State, s.busy = false → (s.inputs = [] → step s = .next s) ∧
    (∀ rest, s.inputs = .engineTurn :: rest → step s = .next { s with inputs := rest })

/-- A CMD write issues when idle and is dropped with OVERRUN when busy; CMD reads 0 (R24). -/
def Obligations.CmdWriteIssuesOrOverruns : Prop :=
  ∀ (s : State) (v : Word),
    (∀ rest, s.inputs = .hostWrite 4 0x00 v :: rest →
      (s.busy = false → step s = .next { s with
        inputs := rest
        busy := true
        op := { cmd := v, argXY := s.argXY, argWH := s.argWH, argSrc0 := s.argSrc0, argSrc1 := s.argSrc1 } }) ∧
      (s.busy = true → step s = .next { s with inputs := rest, diag := s.diag ||| 0x08#6 })) ∧
    s.busRead 4 0x00 = 0x00000000#32

/-- The refusal checks hold in the order of R285: the first that holds sets its one bit and nothing else happens; if none holds
the command executes and can raise only TIMEOUT. -/
def Obligations.RefusalChecksInOrder : Prop :=
  ∀ s : State, s.busy = true → s.inputs = [] →
    (∀ m, refusalByRule s = some m → step s = .next { s with diag := s.diag ||| m, busy := false, raced := [] }) ∧
    (refusalByRule s = none → ∃ i t, decode s.op.cmd = .ok i ∧ exec i s = .next t ∧
      step s = .next { t with busy := false, raced := [] } ∧ (t.diag = s.diag ∨ t.diag = s.diag ||| 0x01#6))

/-- Until the first INIT every other command is refused with NOINIT (R312). -/
def Obligations.NoinitUntilInit : Prop :=
  ∀ (s : State) (i : Instr), s.inited = false → i ≠ .init → exec i s = .next { s with diag := s.diag ||| 0x10#6 }

/-- A colour command with COLOR = 3 does nothing except `diag BADCMD` (R89), once the engine is initialised (R285). -/
def Obligations.ReservedColourOnlySetsBadcmd : Prop :=
  ∀ (s : State) (i : Instr), s.inited = true → (i = .fill .reserved ∨ i = .setPixel .reserved ∨ i = .setPixelPhys .reserved) →
    exec i s = .next { s with diag := s.diag ||| 0x04#6 }

/-- A CMD write that issues copies the word and the four ARG registers into `S.op`; a command takes its operands from there only:
the ARG registers do not matter to it and it leaves them alone (R49). -/
def Obligations.OperandsComeFromTheLatch : Prop :=
  (∀ (s : State) (v : Word) (rest : List Input), s.busy = false → s.inputs = .hostWrite 4 0x00 v :: rest →
    ∃ t, step s = .next t ∧ t.op.cmd = v ∧ t.op.argXY = s.argXY ∧ t.op.argWH = s.argWH ∧ t.op.argSrc0 = s.argSrc0 ∧
      t.op.argSrc1 = s.argSrc1) ∧
  ∀ (s : State) (i : Instr) (a b c d : Word), ∃ t, exec i s = .next t ∧
    t.argXY = s.argXY ∧ t.argWH = s.argWH ∧ t.argSrc0 = s.argSrc0 ∧ t.argSrc1 = s.argSrc1 ∧ t.op = s.op ∧
    exec i { s with argXY := a, argWH := b, argSrc0 := c, argSrc1 := d } =
      .next { t with argXY := a, argWH := b, argSrc0 := c, argSrc1 := d }

/-! ## The register window -/

/-- The ARG registers store what is written, at any time, and read it back (R25 to R28, R81); a DIAG write clears the bits written
as 1, keeps the others and changes nothing else, and bits [31:6] read 0 (R33, R81). -/
def Obligations.HostWritesStoreArgsAndClearDiag : Prop :=
  ∀ (s : State) (v : Word),
    (∀ rest, s.inputs = .hostWrite 4 0x04 v :: rest → step s = .next { s with inputs := rest, argXY := v }) ∧
    (∀ rest, s.inputs = .hostWrite 4 0x08 v :: rest → step s = .next { s with inputs := rest, argWH := v }) ∧
    (∀ rest, s.inputs = .hostWrite 4 0x0C v :: rest → step s = .next { s with inputs := rest, argSrc0 := v }) ∧
    (∀ rest, s.inputs = .hostWrite 4 0x10 v :: rest → step s = .next { s with inputs := rest, argSrc1 := v }) ∧
    (∀ rest, s.inputs = .hostWrite 4 0x18 v :: rest → ∃ d, step s = .next { s with inputs := rest, diag := d } ∧
      ∀ k, k < 6 → d.getLsbD k = (s.diag.getLsbD k && !v.getLsbD k)) ∧
    s.busRead 4 0x04 = s.argXY ∧ s.busRead 4 0x08 = s.argWH ∧ s.busRead 4 0x0C = s.argSrc0 ∧
    s.busRead 4 0x10 = s.argSrc1 ∧ ∀ k, (s.busRead 4 0x18).getLsbD k = s.diag.getLsbD k

/-- An access that is not 32 bits wide, or not aligned (R69), or at the reserved offset 0x3C (R42), is ignored if a write and returns
0 if a read. That the same holds at every offset past the 64-byte window (0x40 and on) is the model's reading of R42 and R71, not
their words (log 18). Any read has no side effect: only the value returned, which the model keeps in its own field (log 10), changes
(R70). -/
def Obligations.InertAccessesAndReads : Prop :=
  ∀ (s : State) (width off : Nat) (v : Word),
    ((width ≠ 4 ∨ off % 4 ≠ 0 ∨ 0x3C ≤ off) →
      s.busRead width off = 0x00000000#32 ∧
      ∀ rest, s.inputs = .hostWrite width off v :: rest → step s = .next { s with inputs := rest }) ∧
    (∀ rest, s.inputs = .hostRead width off :: rest →
      step s = .next { s with inputs := rest, readData := s.busRead width off })

/-- STATUS, bit by bit; it is read-only and 0 after reset (R29). -/
def Obligations.StatusShowsItsFields : Prop :=
  ∀ s : State,
    (s.busRead 4 0x14).getLsbD 0 = s.busy ∧
    (s.busRead 4 0x14).getLsbD 1 = s.cont ∧
    (s.busRead 4 0x14).getLsbD 2 = decide (s.cursor ≠ none) ∧
    (s.busRead 4 0x14).getLsbD 3 = decide (s.phase = .second) ∧
    (s.busRead 4 0x14).getLsbD 4 = s.pwr ∧
    (s.busRead 4 0x14).getLsbD 5 = decide (s.winMode = .partialMode) ∧
    (s.busRead 4 0x14).getLsbD 6 = s.inited ∧
    (s.busRead 4 0x14).getLsbD 7 = s.passPartial ∧
    (∀ k, 8 ≤ k → (s.busRead 4 0x14).getLsbD k = false) ∧
    (∀ v rest, s.inputs = .hostWrite 4 0x14 v :: rest → step s = .next { s with inputs := rest }) ∧
    (∀ p, (State.resetFor p).busRead 4 0x14 = 0x00000000#32)

/-- The view registers PAGE, GEOM, WIN_XY, WIN_WH, BUSY_US, PANEL, PCFG and CAPR, field by field, what they read after reset, and
that writes to them are ignored (R34 to R41). The low 32 bits that CAPR shows of a CAP of 2^32 or more are the model's choice
(log 22), and so are the low bits that a field shows of a cursor, count, size or coordinate that does not fit it, in states outside
the invariant (log 21). -/
def Obligations.ViewRegistersShowTheState : Prop :=
  ∀ s : State,
    (∀ n, s.cursor = some n → (s.busRead 4 0x1C).extractLsb' 0 16 = BitVec.ofNat 16 n) ∧
    (s.cursor = none → (s.busRead 4 0x1C).extractLsb' 0 16 = 0xFFFF#16) ∧
    (s.busRead 4 0x1C).extractLsb' 16 16 = BitVec.ofNat 16 s.profile.pageCount ∧
    (s.busRead 4 0x20).extractLsb' 0 16 = BitVec.ofNat 16 (min s.profile.pageHeight 0xFFFF) ∧
    (s.busRead 4 0x20).extractLsb' 16 2 = rotationBits s.rot ∧
    (s.busRead 4 0x20).getLsbD 18 = s.mirror ∧
    (∀ k, 19 ≤ k → (s.busRead 4 0x20).getLsbD k = false) ∧
    (s.winMode = .full → s.busRead 4 0x24 = 0x00000000#32 ∧
      (s.busRead 4 0x28).extractLsb' 0 16 = BitVec.ofNat 16 s.profile.width ∧
      (s.busRead 4 0x28).extractLsb' 16 16 = BitVec.ofNat 16 s.profile.height) ∧
    (s.winMode = .partialMode →
      (s.busRead 4 0x24).extractLsb' 0 16 = BitVec.ofInt 16 s.win.x ∧
      (s.busRead 4 0x24).extractLsb' 16 16 = BitVec.ofInt 16 s.win.y ∧
      (s.busRead 4 0x28).extractLsb' 0 16 = BitVec.ofInt 16 s.win.w ∧
      (s.busRead 4 0x28).extractLsb' 16 16 = BitVec.ofInt 16 s.win.h) ∧
    s.busRead 4 0x2C = s.lastBusyUs ∧
    (s.busRead 4 0x30).extractLsb' 0 16 = BitVec.ofNat 16 s.profile.width ∧
    (s.busRead 4 0x30).extractLsb' 16 16 = BitVec.ofNat 16 s.profile.height ∧
    (s.busRead 4 0x34).extractLsb' 0 1 = BitVec.ofNat 1 (s.profile.planes - 1) ∧
    (s.busRead 4 0x34).extractLsb' 1 2 =
      (match s.profile.enc with | .plain => 0#2 | .grey4 => 1#2 | .nibble => 2#2) ∧
    (s.busRead 4 0x34).getLsbD 3 = s.profile.twoPass ∧
    (s.busRead 4 0x34).getLsbD 4 = s.profile.partialOk ∧
    (s.busRead 4 0x34).getLsbD 5 = decide (s.profile.stream = .continuous) ∧
    (s.busRead 4 0x34).extractLsb' 6 2 =
      (match s.profile.winEnc with | .abs => 0#2 | .entry => 1#2 | .none => 2#2) ∧
    (s.busRead 4 0x34).getLsbD 8 = s.profile.busyLevel ∧
    (s.busRead 4 0x34).getLsbD 9 = s.profile.wakeNeedsReset ∧
    (s.busRead 4 0x34).getLsbD 10 = s.profile.invBlack ∧
    (s.busRead 4 0x34).getLsbD 11 = s.profile.invAccent ∧
    (∀ k, 12 ≤ k → (s.busRead 4 0x34).getLsbD k = false) ∧
    s.busRead 4 0x38 = BitVec.ofNat 32 s.profile.cap ∧
    (∀ off ∈ [0x1C, 0x20, 0x24, 0x28, 0x2C, 0x30, 0x34, 0x38], ∀ v rest, s.inputs = .hostWrite 4 off v :: rest →
      step s = .next { s with inputs := rest }) ∧
    (∀ p, (State.resetFor p).busRead 4 0x1C = BitVec.ofNat 16 p.pageCount ++ 0xFFFF#16 ∧
      (State.resetFor p).busRead 4 0x20 = 0#16 ++ BitVec.ofNat 16 (min p.pageHeight 0xFFFF) ∧
      (State.resetFor p).busRead 4 0x24 = 0x00000000#32 ∧
      (State.resetFor p).busRead 4 0x28 = BitVec.ofNat 16 p.height ++ BitVec.ofNat 16 p.width ∧
      (State.resetFor p).busRead 4 0x2C = 0x00000000#32)

/-! ## Reset and the profile -/

/-- Reset gives every piece of state the value of R50; what R50 leaves unspecified (the frame buffer, `S.op`) is not spoken
of. -/
def Obligations.ResetValues : Prop :=
  ∀ p : Profile,
    (State.resetFor p).inited = false ∧
    (State.resetFor p).cursor = none ∧
    (State.resetFor p).phase = .first ∧
    (State.resetFor p).passPartial = false ∧
    (State.resetFor p).passWin = ⟨0, 0, p.width, p.height⟩ ∧
    (State.resetFor p).winMode = .full ∧
    (State.resetFor p).win = ⟨0, 0, 0, 0⟩ ∧
    (State.resetFor p).rot = .r0 ∧
    (State.resetFor p).mirror = false ∧
    (State.resetFor p).pwr = false ∧
    (State.resetFor p).needReset = true ∧
    (State.resetFor p).cont = false ∧
    (State.resetFor p).busy = false ∧
    (State.resetFor p).lastBusyUs = 0x00000000#32 ∧
    (State.resetFor p).diag = 0#6 ∧
    (State.resetFor p).argXY = 0x00000000#32 ∧
    (State.resetFor p).argWH = 0x00000000#32 ∧
    (State.resetFor p).argSrc0 = 0x00000000#32 ∧
    (State.resetFor p).argSrc1 = 0x00000000#32 ∧
    (State.resetFor p).pins = ⟨true, true, true⟩ ∧
    (State.resetFor p).profile = p

/-- A hardware reset puts every piece of engine state at its reset value; no event of its own is sent; of a command under way,
events already sent stay sent and the rest are not sent (R310). What stays of the outside world is the model's choice (log 8), and
so are the blank frame buffer and the zero latch of the reset state, which R50 leaves unspecified (logs 2 and 3). That a reset
takes no time is the model's choice too (log 23). -/
def Obligations.HardResetCutsTheCommand : Prop :=
  ∀ (s : State) (n : Nat) (rest : List Input), s.inputs = .hardReset n :: rest →
    ∃ evs t, step s = .next t ∧
      t = { State.resetFor s.profile with
        wire := s.wire ++ evs, srcData := s.srcData, srcProg := s.srcProg, draws := t.draws, inputs := rest,
        readData := s.readData } ∧
      (s.busy = false → evs = []) ∧
      (s.busy = true → ∀ u, step { s with inputs := .engineTurn :: rest } = .next u →
        ∃ more, u.wire = s.wire ++ evs ++ more ∧ (evs.length = n ∨ (more = [] ∧ evs.length ≤ n)))

/-- An engine is built from exactly the admitted profiles (R12; that an empty DATA item makes a profile inadmissible is deduced from
R11: log 13). -/
def Obligations.OnlyAdmittedProfilesBuild : Prop :=
  ∀ p : Profile, (admitted p → State.build p = .next (State.resetFor p)) ∧
    (¬ admitted p → State.build p = .refused .illFormedProfile)

/-- What the frame buffer holds before the first INIT cannot be observed: no register shows it, every other command passes it by,
and INIT ends in the same state whatever it held (R50, R312). -/
def Obligations.ResetBufferIsUnobservable : Prop :=
  ∀ (s : State) (b a : Memory), s.inited = false →
    (∀ width off, ({ s with fbBlack := b, fbAccent := a }).busRead width off = s.busRead width off) ∧
    (∀ i, i ≠ .init → ∃ t, exec i s = .next t ∧
      exec i { s with fbBlack := b, fbAccent := a } = .next { t with fbBlack := b, fbAccent := a }) ∧
    exec .init { s with fbBlack := b, fbAccent := a } = exec .init s

/-! ## Set-up commands -/

/-- INIT: what it writes, and that it writes nothing else; the buffer then reads blank (R250). -/
def Obligations.InitResult : Prop :=
  ∀ s : State, ∃ t, exec .init s = .next t ∧
    t = { s with
      inited := true, cursor := none, phase := .first, cont := false, passPartial := false,
      passWin := ⟨0, 0, s.profile.width, s.profile.height⟩, winMode := .full, pwr := false, needReset := true,
      fbBlack := t.fbBlack, fbAccent := t.fbAccent } ∧
    blankBuffer t ∧ ({ t with busy := false }).busRead 4 0x14 = 0x00000040#32 ∧
    (t.busRead 4 0x1C).extractLsb' 0 16 = 0xFFFF#16 ∧ t.busRead 4 0x24 = 0x00000000#32 ∧
    t.busRead 4 0x28 = BitVec.ofNat 16 s.profile.height ++ BitVec.ofNat 16 s.profile.width

/-- SET_ROTATION writes the rotation and the mirror flag and nothing else, in a pass or not; GEOM shows them; before the first INIT
it is refused (R106). -/
def Obligations.SetRotationResult : Prop :=
  ∀ (s : State) (r : Rotation) (m : Bool),
    (s.inited = true → ∃ t, exec (.setRotation r m) s = .next t ∧ t = { s with rot := r, mirror := m } ∧
      (t.busRead 4 0x20).extractLsb' 16 2 = rotationBits r ∧ (t.busRead 4 0x20).getLsbD 18 = m) ∧
    (s.inited = false → exec (.setRotation r m) s = .next { s with diag := s.diag ||| 0x10#6 })

/-- SET_FULL_WINDOW clears the partial mode and leaves `S.win` as it was; in a pass it sets PASSLOCK (R230). -/
def Obligations.SetFullWindowResult : Prop :=
  ∀ s : State, s.inited = true →
    (s.cursor = none → ∃ t, exec .setFullWindow s = .next t ∧ t = { s with winMode := .full } ∧
      (t.busRead 4 0x14).getLsbD 5 = false ∧ t.busRead 4 0x24 = 0x00000000#32 ∧
      t.busRead 4 0x28 = BitVec.ofNat 16 s.profile.height ++ BitVec.ofNat 16 s.profile.width) ∧
    (s.cursor ≠ none → exec .setFullWindow s = .next { s with diag := s.diag ||| 0x20#6 })

/-- Window commands change nothing in a pass but set PASSLOCK (R231). -/
def Obligations.WindowCommandsAreLockedInAPass : Prop :=
  ∀ s : State, s.inited = true → s.cursor ≠ none →
    exec .setFullWindow s = .next { s with diag := s.diag ||| 0x20#6 } ∧
    exec .setPartialWindow s = .next { s with diag := s.diag ||| 0x20#6 }

/-- SET_PARTIAL_WINDOW: transform, clip, align, store (R232 to R237), REJECT without PARTIAL_OK and PASSLOCK in a pass (R236). -/
def Obligations.SetPartialWindowResult : Prop :=
  ∀ s : State, s.inited = true →
    (s.cursor ≠ none → exec .setPartialWindow s = .next { s with diag := s.diag ||| 0x20#6 }) ∧
    (s.cursor = none → s.profile.partialOk = false → exec .setPartialWindow s = .next { s with diag := s.diag ||| 0x02#6 }) ∧
    (s.cursor = none → s.profile.partialOk = true →
      let R := rectByRule s.profile s.rot s.mirror (operandRect s)
      let x3 := min (max R.x 0) s.profile.width
      let y3 := min (max R.y 0) s.profile.height
      let w4 := min (max (max R.w 0) 0) (s.profile.width - x3)
      let h4 := min (max (max R.h 0) 0) (s.profile.height - y3)
      let xa := x3 - x3 % 8
      let wa := if w4 = 0 then 0 else (x3 + w4 + 7) - (x3 + w4 + 7) % 8 - xa
      exec .setPartialWindow s = .next { s with win := ⟨xa, y3, wa, h4⟩, winMode := .partialMode })

/-- The applied window is byte-aligned and lies inside the panel; it covers the clamped request from the left, and from the right
whenever the clamped request has a width (R237; where it has none, the applied width is 0 at the aligned origin). -/
def Obligations.AppliedWindowLiesInThePanel : Prop :=
  ∀ (p : Profile) (r : Rotation) (m : Bool) (R : Rect), p.wf = true →
    (applyWindow p r m R).inPanel p ∧
    (applyWindow p r m R).x ≤ (clipRect p (transformRect p r m R)).x ∧
    ((clipRect p (transformRect p r m R)).w ≠ 0 →
      (clipRect p (transformRect p r m R)).x + (clipRect p (transformRect p r m R)).w ≤
        (applyWindow p r m R).x + (applyWindow p r m R).w) ∧
    ((clipRect p (transformRect p r m R)).w = 0 → (applyWindow p r m R).w = 0)

/-- At rotation 0 without mirroring a valid window comes back unchanged, and (-5, 0, W + 100, h) gives x = 0, w = W (R239). -/
def Obligations.ClippingKeepsValidWindows : Prop :=
  ∀ p : Profile, p.wf = true →
    (∀ R : Rect, R.inPanel p → applyWindow p .r0 false R = R) ∧
    (∀ h : Int, (applyWindow p .r0 false ⟨-5, 0, p.width + 100, h⟩).x = 0 ∧
      (applyWindow p .r0 false ⟨-5, 0, p.width + 100, h⟩).w = p.width)

/-! ## Geometry -/

/-- The transform is a bijection of the plane that takes the logical rectangle onto the panel (R105 (a)). -/
def Obligations.TransformIsABijection : Prop :=
  ∀ (p : Profile) (r : Rotation) (m : Bool),
    Function.Bijective (transformPoint p r m) ∧
    ∀ x y : Int, (0 ≤ x ∧ x < logicalWidth p r ∧ 0 ≤ y ∧ y < logicalHeight p r) ↔
      (0 ≤ (transformPoint p r m (x, y)).1 ∧ (transformPoint p r m (x, y)).1 < p.width ∧
       0 ≤ (transformPoint p r m (x, y)).2 ∧ (transformPoint p r m (x, y)).2 < p.height)

/-- The rectangle transform is the image of the rectangle's points (R105 (b)). -/
def Obligations.RectTransformIsThePointImage : Prop :=
  ∀ (p : Profile) (r : Rotation) (m : Bool) (R : Rect), 0 ≤ R.w → 0 ≤ R.h → ∀ X Y : Int,
    (transformRect p r m R).has X Y ↔ ∃ x y : Int, R.has x y ∧ transformPoint p r m (x, y) = (X, Y)

/-- The point transform is the one of R100 to R102; complementary rotations, the compositions on a square panel, and the inverses
(R105 (c), (d), (e)). -/
def Obligations.RotationsComposeAsStated : Prop :=
  ∀ (p : Profile) (m : Bool) (pt : Int × Int),
    (∀ r, transformPoint p r m pt = pointByRule p r m pt.1 pt.2 ∧ rotatePoint p r pt = pointByRule p r false pt.1 pt.2) ∧
    (∀ a b, (a, b) ∈ [(Rotation.r0, Rotation.r2), (.r1, .r3), (.r2, .r0), (.r3, .r1)] →
      transformPoint p b m pt =
        (p.width - 1 - (transformPoint p a m pt).1, p.height - 1 - (transformPoint p a m pt).2)) ∧
    (p.width = p.height → rotatePoint p .r1 (rotatePoint p .r1 pt) = rotatePoint p .r2 pt ∧
      rotatePoint p .r3 (rotatePoint p .r1 pt) = pt) ∧
    ((rotatePoint p .r1 pt).2, p.width - 1 - (rotatePoint p .r1 pt).1) = pt ∧
    rotatePoint p .r2 (rotatePoint p .r2 pt) = pt ∧
    (p.height - 1 - (rotatePoint p .r3 pt).2, (rotatePoint p .r3 pt).1) = pt ∧
    ∀ r, mirrorPoint p m r (mirrorPoint p m r pt) = pt

/-! ## Frame buffer -/

/-- FILL, colour by colour; nothing but the buffer changes; the reserved colour sets BADCMD (R122). -/
def Obligations.FillResult : Prop :=
  ∀ (s : State) (c : Color), s.inited = true → ∃ t, exec (.fill c) s = .next t ∧
    (c = .reserved → t = { s with diag := s.diag ||| 0x04#6 }) ∧
    (c ≠ .reserved → t = { s with fbBlack := t.fbBlack, fbAccent := t.fbAccent }) ∧
    (c = .white → planeIs t .black 0x00 ∧ (s.profile.planes = 2 → planeIs t .accent 0x00)) ∧
    (c = .black → planeIs t .black 0xFF ∧ (s.profile.planes = 2 → planeIs t .accent 0x00)) ∧
    (c = .accent → s.profile.planes = 2 → planeIs t .black 0x00 ∧ planeIs t .accent 0xFF) ∧
    (c = .accent → s.profile.planes ≠ 2 → s.profile.accentOnMono = .black → planeIs t .black 0xFF) ∧
    (c = .accent → s.profile.planes ≠ 2 → s.profile.accentOnMono = .white → planeIs t .black 0x00) ∧
    (c = .accent → s.profile.planes ≠ 2 → s.profile.accentOnMono = .ignore → t = s)

/-- SET_PIXEL_PHYS writes its one pixel and nothing else, and out of range or out of the resident page does nothing; the reserved
colour sets BADCMD (R127, R128). -/
def Obligations.SetPixelPhysResult : Prop :=
  ∀ (s : State) (c : Color), s.inited = true → s.fbBlack.wf → s.fbAccent.wf →
    (c = .reserved → exec (.setPixelPhys c) s = .next { s with diag := s.diag ||| 0x04#6 }) ∧
    (c ≠ .reserved → ∃ t, exec (.setPixelPhys c) s = .next t ∧
      PixelWritten s t (s.op.argXY.extractLsb' 0 16).toInt (s.op.argXY.extractLsb' 16 16).toInt c)

/-- SET_PIXEL: outside the logical rectangle nothing happens; inside, the transformed pixel is written; the reserved colour sets
BADCMD (R129). -/
def Obligations.SetPixelResult : Prop :=
  ∀ (s : State) (c : Color), s.inited = true → s.fbBlack.wf → s.fbAccent.wf →
    (c = .reserved → exec (.setPixel c) s = .next { s with diag := s.diag ||| 0x04#6 }) ∧ (c ≠ .reserved →
    let x := (s.op.argXY.extractLsb' 0 16).toInt
    let y := (s.op.argXY.extractLsb' 16 16).toInt
    ((x < 0 ∨ widthByRule s.profile s.rot ≤ x ∨ y < 0 ∨ heightByRule s.profile s.rot ≤ y) →
      exec (.setPixel c) s = .next s) ∧
    ((0 ≤ x ∧ x < widthByRule s.profile s.rot ∧ 0 ≤ y ∧ y < heightByRule s.profile s.rot) →
      ∃ t, exec (.setPixel c) s = .next t ∧
        PixelWritten s t (pointByRule s.profile s.rot s.mirror x y).1 (pointByRule s.profile s.rot s.mirror x y).2 c))

/-! ## Pager -/

/-- The pages: PH rows are CAP bytes; each page has a row, they are disjoint and cover the panel, their extents add up to H, all but
the last are PH rows, and a page fits the buffer (R140, R143). -/
def Obligations.PagesPartitionThePanel : Prop :=
  ∀ p : Profile, p.wf = true →
    1 ≤ p.pageCount ∧ p.pageHeight * p.bpr = p.cap ∧
    (∀ n, n < p.pageCount → 1 ≤ p.pageRows n ∧ p.pageRows n * p.bpr ≤ p.cap) ∧
    (∀ Y : Int, (0 ≤ Y ∧ Y < p.height) ↔
      ∃ n, n < p.pageCount ∧ p.pageStart n ≤ Y ∧ Y < p.pageStart n + p.pageRows n) ∧
    (∀ (Y : Int) (n k : Nat), p.pageStart n ≤ Y → Y < p.pageStart n + p.pageRows n → p.pageStart k ≤ Y →
      Y < p.pageStart k + p.pageRows k → n = k) ∧
    ((List.range p.pageCount).map p.pageRows).sum = p.height ∧
    (∀ n, n + 1 < p.pageCount → p.pageRows n = p.pageHeight) ∧
    p.pageRows (p.pageCount - 1) = p.height - (p.pageCount - 1 : Nat) * (p.pageHeight : Int)

/-- The page rectangles of a pass, in page order, are the pass window's byte positions in row-major order: nothing is left out,
repeated or reordered (R152, R161 (c)); each page's rectangle holds just the positions of the window whose rows are the page's
(R146); and the byte of each of its positions is the buffer byte (Y - n*PH)*BPR + c of the plane, always within the buffer
(R144, R147), where phase 0 is for the black plane and phase 1 for the accent plane (R44). -/
def Obligations.PageRectsTileThePassWindow : Prop :=
  ∀ s : State, s.profile.wf = true → s.passWin.inPanel s.profile →
    (List.range s.profile.pageCount).flatMap (fun n => (s.pageRect n).cells) = s.passWin.cells ∧
    ∀ n, n < s.profile.pageCount →
      s.pageRect n = pageRectByRule s n ∧
      (∀ c Y, (c, Y) ∈ (s.pageRect n).cells ↔
        (c, Y) ∈ s.passWin.cells ∧ s.profile.pageStart n ≤ Y ∧ Y < s.profile.pageStart n + s.profile.pageRows n) ∧
      (∀ q c Y, (c, Y) ∈ (s.pageRect n).cells →
        ∃ i : Nat, (i : Int) = (Y - (n : Int) * s.profile.pageHeight) * s.profile.bpr + c ∧ i < s.profile.cap ∧
          s.pageByte n q c Y = s.fbRead q i ∧
          s.fbRead q i = (match q with | .black => s.fbBlack.readByte i | .accent => s.fbAccent.readByte i)) ∧
      Phase.first.plane = .black ∧ Phase.second.plane = .accent

/-- BEGIN_FRAME: the latched pass, the init on the wire, the pass start of a CONTINUOUS profile, cursor 0, blank buffer (R145,
R148, R149, R157). -/
def Obligations.BeginFrameResult : Prop :=
  ∀ s : State, s.inited = true → ∃ t, exec .beginFrame s = .next t ∧
    Observed s t (expectInit s.profile s.needReset s.pwr (latchedMode s) ++
      (if s.profile.stream = .continuous then
        (if (latchedWindow s).w = 0 ∨ (latchedWindow s).h = 0 then [] else expectWindow s.profile (latchedWindow s)) ++
          expectCmd s.profile.cmdWriteBlack
       else [])) ∧
    t = { s.withPanelSide t with
      passPartial := decide (s.winMode = .partialMode), passWin := latchedWindow s, needReset := false, pwr := true,
      cursor := some 0, phase := .first, cont := true, fbBlack := t.fbBlack, fbAccent := t.fbAccent } ∧
    blankBuffer t

/-- ADVANCE_PAGE with no pass active only clears CONT (R156). -/
def Obligations.AdvanceWithoutAPass : Prop :=
  ∀ s : State, s.inited = true → s.cursor = none → exec .advancePage s = .next { s with cont := false }

/-- ADVANCE_PAGE with pages left streams the page, moves the cursor on and blanks the buffer (R153). -/
def Obligations.AdvanceToTheNextPage : Prop :=
  ∀ (s : State) (n : Nat), s.inited = true → s.cursor = some n → n + 1 < s.profile.pageCount →
    ∃ t, exec .advancePage s = .next t ∧ Observed s t (expectPage s n) ∧
      t = { s.withPanelSide t with cursor := some (n + 1), cont := true, fbBlack := t.fbBlack, fbAccent := t.fbAccent } ∧
      blankBuffer t

/-- After the last page of phase 0 of a TWO_PASS profile ADVANCE_PAGE switches the phase (R153, R154). -/
def Obligations.AdvanceSwitchesThePhase : Prop :=
  ∀ (s : State) (n : Nat), s.inited = true → s.cursor = some n → s.profile.pageCount ≤ n + 1 → s.profile.twoPass = true →
    s.phase = .first →
    ∃ t, exec .advancePage s = .next t ∧ Observed s t (expectPage s n ++ expectCmd s.profile.cmdWriteAccent) ∧
      t = { s.withPanelSide t with
        cursor := some 0, phase := .second, cont := true, fbBlack := t.fbBlack, fbAccent := t.fbAccent } ∧
      blankBuffer t

/-- After the last page of the last phase ADVANCE_PAGE ends the pass: refresh, power off in full mode only, cursor -1; the
buffer keeps its contents (R153, R155). -/
def Obligations.AdvanceEndsThePass : Prop :=
  ∀ (s : State) (n : Nat), s.inited = true → s.cursor = some n → s.profile.pageCount ≤ n + 1 →
    ¬ (s.profile.twoPass = true ∧ s.phase = .first) →
    ∃ t, exec .advancePage s = .next t ∧
      (s.passPartial = true →
        Observed s t (expectPage s n ++ expectSeq s.profile s.profile.seqRefreshPartial) ∧
        t = { s.withPanelSide t with
          cursor := none, phase := .first, cont := false,
          needReset := s.needReset && !hasPulse s.profile.seqRefreshPartial }) ∧
      (s.passPartial = false → s.pwr = true →
        Observed s t (expectPage s n ++ expectSeq s.profile s.profile.seqRefreshFull ++
          expectSeq s.profile s.profile.seqPowerOff) ∧
        t = { s.withPanelSide t with
          cursor := none, phase := .first, cont := false, pwr := false,
          needReset := (s.needReset && !hasPulse (s.profile.seqRefreshFull ++ s.profile.seqPowerOff)) ||
            s.profile.wakeNeedsReset }) ∧
      (s.passPartial = false → s.pwr = false →
        Observed s t (expectPage s n ++ expectSeq s.profile s.profile.seqRefreshFull) ∧
        t = { s.withPanelSide t with
          cursor := none, phase := .first, cont := false,
          needReset := s.needReset && !hasPulse s.profile.seqRefreshFull })

/-- A pass that is not restarted completes after exactly PC ADVANCE_PAGE commands, 2 * PC on a TWO_PASS profile, and every one
before the last answers "continue" (R160, R161 (b)). -/
def Obligations.PassCompletesAfterItsPages : Prop :=
  ∀ s : State, s.profile.wf = true → s.inited = true → s.cursor = some 0 → s.phase = .first → s.cont = true →
    (∀ k, k < s.profile.pageCount →
      ∃ t, advanceTimes k s = some t ∧ t.cursor = some k ∧ t.phase = .first ∧ t.cont = true) ∧
    (s.profile.twoPass = false →
      ∃ t, advanceTimes s.profile.pageCount s = some t ∧ t.cursor = none ∧ t.phase = .first ∧ t.cont = false) ∧
    (s.profile.twoPass = true →
      (∀ k, k < s.profile.pageCount →
        ∃ t, advanceTimes (s.profile.pageCount + k) s = some t ∧ t.cursor = some k ∧ t.phase = .second ∧ t.cont = true) ∧
      ∃ t, advanceTimes (2 * s.profile.pageCount) s = some t ∧ t.cursor = none ∧ t.phase = .first ∧ t.cont = false)

/-! ## Controller -/

/-- The busy wait reads samples until one is ready or past the ceiling, records its elapsed time and sets TIMEOUT in the second
case only (R187, R189). -/
def Obligations.BusyWaitPollsUntilReadyOrCeiling : Prop :=
  ∀ (s : State) (pre rest : List Poll) (a : Poll), s.polls = pre ++ a :: rest →
    (∀ b ∈ pre, b.level = s.profile.busyLevel ∧ b.elapsed < s.profile.busyTimeoutUs) →
    (a.level ≠ s.profile.busyLevel →
      s.busyWait = { s with
        polls := rest, lastBusyUs := BitVec.ofNat 32 (min a.elapsed 0xFFFFFFFF),
        wire := s.wire ++ [.busy .ready a.elapsed] }) ∧
    (a.level = s.profile.busyLevel → s.profile.busyTimeoutUs ≤ a.elapsed →
      s.busyWait = { s with
        polls := rest, lastBusyUs := BitVec.ofNat 32 (min a.elapsed 0xFFFFFFFF), diag := s.diag ||| 0x01#6,
        wire := s.wire ++ [.busy .timeout a.elapsed] })

/-- The window bytes carry the coordinates, which can be read back from them. ABS: xs, xe, ys, ye as 16-bit values, high byte first,
then the suffix (R198). ENTRY: entry mode, the ranges with columns in bytes and rows low byte first, the RAM pointers (R199 to
R201). NONE: nothing (R202). -/
def Obligations.WindowBytesCarryTheCoordinates : Prop :=
  ∀ (s : State) (R : Rect), s.profile.wf = true → R.inPanel s.profile → R.w ≠ 0 → R.h ≠ 0 →
    (s.profile.winEnc = .abs →
      ∃ b0 b1 b2 b3 b4 b5 b6 b7 : Byte, ∃ t, t = s.setWindow R ∧
        t.wire = s.wire ++ [.cmd s.profile.cmdWinAbs, .data ([b0, b1, b2, b3, b4, b5, b6, b7] ++ s.profile.absSuffix)] ∧
        t = { s with wire := t.wire, pins := t.pins } ∧
        (256 * b0.toNat + b1.toNat : Int) = R.x ∧ (256 * b2.toNat + b3.toNat : Int) = R.x + R.w - 1 ∧
        (256 * b4.toNat + b5.toNat : Int) = R.y ∧ (256 * b6.toNat + b7.toNat : Int) = R.y + R.h - 1) ∧
    (s.profile.winEnc = .entry →
      ∃ c0 c1 r0 r1 r2 r3 : Byte, ∃ t, t = s.setWindow R ∧
        t.wire = s.wire ++ [.cmd s.profile.cmdEntry, .data [s.profile.entryVal], .cmd s.profile.cmdXRange, .data [c0, c1],
          .cmd s.profile.cmdYRange, .data [r0, r1, r2, r3], .cmd s.profile.cmdXPtr, .data [c0],
          .cmd s.profile.cmdYPtr, .data [r0, r1]] ∧
        t = { s with wire := t.wire, pins := t.pins } ∧
        (8 * c0.toNat : Int) = R.x ∧ (8 * c1.toNat + 8 : Int) = R.x + R.w ∧
        (r0.toNat + 256 * r1.toNat : Int) = R.y ∧ (r2.toNat + 256 * r3.toNat : Int) = R.y + R.h - 1) ∧
    (s.profile.winEnc = .none → s.setWindow R = s)

/-- Each encoder's output, byte by byte in row-major order, and its length (R203 to R207). -/
def Obligations.EncodersFollowTheirRules : Prop :=
  ∀ (p : Profile) (q : Plane) (R : Rect) (src : ByteSource) (i j : Nat), i < R.h.toNat → j < (R.w / 8).toNat →
    let n := i * (R.w / 8).toNat + j
    let b := src .black (R.x / 8 + j) (R.y + i)
    let a := src .accent (R.x / 8 + j) (R.y + i)
    (encPlain p q R src).length = R.h.toNat * (R.w / 8).toNat ∧
    (encGrey p R src).length = 2 * (R.h.toNat * (R.w / 8).toNat) ∧
    (encNibble p R src).length = 4 * (R.h.toNat * (R.w / 8).toNat) ∧
    (encPlain p q R src)[n]? = some
      (if (match q with | .black => p.invBlack | .accent => p.invAccent) then ~~~(src q (R.x / 8 + j) (R.y + i))
       else src q (R.x / 8 + j) (R.y + i)) ∧
    (encGrey p R src)[2 * n]? = some (p.grey4Lut.toList.getD (b.toNat / 16) 0) ∧
    (encGrey p R src)[2 * n + 1]? = some (p.grey4Lut.toList.getD (b.toNat % 16) 0) ∧
    ∀ k, k < 4 → ∃ o, (encNibble p R src)[4 * n + k]? = some o ∧
      o.extractLsb' 4 4 = (if b.getLsbD (7 - 2 * k) then p.nibBlack else if a.getLsbD (7 - 2 * k) then p.nibAccent
        else p.nibWhite) ∧
      o.extractLsb' 0 4 = (if b.getLsbD (6 - 2 * k) then p.nibBlack else if a.getLsbD (6 - 2 * k) then p.nibAccent
        else p.nibWhite)

/-- Every event that begins with CS = 1 and RST = 1 ends so; DC keeps the last value driven: 0 by a command, 1 by data; the bits
of a byte go out most significant first (R181 to R186). -/
def Obligations.PinsAfterAnEvent : Prop :=
  (∀ (s : State) (e : WireEvent), s.pins.cs = true → s.pins.rst = true →
    (s.emit e).pins.cs = true ∧ (s.emit e).pins.rst = true ∧
    (∀ b, e = .cmd b → (s.emit e).pins.dc = false ∧ e.bits = wireBits b) ∧
    (∀ bs, e = .data bs → (s.emit e).pins.dc = true ∧ e.bits = bs.flatMap wireBits) ∧
    ((∀ b, e ≠ .cmd b) → (∀ bs, e ≠ .data bs) → (s.emit e).pins.dc = s.pins.dc ∧ e.bits = [])) ∧
  (∀ (b : Byte) (k : Nat), k < 8 → (wireBits b)[k]? = some (b.getMsbD k))

/-- A busy wait that times out changes nothing but its answer on the trace, DIAG.TIMEOUT and BUSY_US: whatever the panel's samples
are, the command emits as many events and commits the same state, and the events are the same but for the busy answers, unless
an image command reads a byte that the host has not provisioned (R188, R286; the free bytes are log 7's). -/
def Obligations.TimeoutsDoNotChangeTheCommit : Prop :=
  ∀ (s : State) (i : Instr) (ps : List Poll), ∃ t t', exec i s = .next t ∧ exec i { s with polls := ps } = .next t' ∧
    t' = { t with
      wire := t'.wire, diag := t'.diag, lastBusyUs := t'.lastBusyUs, polls := t'.polls, draws := t'.draws } ∧
    t'.diag ||| 0x01#6 = t.diag ||| 0x01#6 ∧
    t'.wire.length = t.wire.length ∧
    ((∀ f, i = .writeImage f ∨ i = .drawImage f → ∀ c Y, (c, Y) ∈ (imgWindow s.profile (operandRect s)).cells → ∀ q d d',
        ({ s with draws := d }).imgByte f q c Y = ({ s with draws := d' }).imgByte f q c Y) →
      t'.wire.map forgetAnswer = t.wire.map forgetAnswer)

/-! ## Power and bulk commands -/

/-- POWER_OFF: SEQ_POWER_OFF and the new power state when on, nothing at all when off (R195, R251). -/
def Obligations.PowerOffResult : Prop :=
  ∀ s : State, s.inited = true →
    (s.pwr = false → exec .powerOff s = .next s) ∧
    (s.pwr = true → ∃ t, exec .powerOff s = .next t ∧ Observed s t (expectSeq s.profile s.profile.seqPowerOff) ∧
      t = { s.withPanelSide t with
        pwr := false,
        needReset := (s.needReset && !hasPulse s.profile.seqPowerOff) || s.profile.wakeNeedsReset })

/-- CLEAR_PANEL: full init, the pattern on every streamed plane of the whole panel, full refresh, power off; buffer, pass and
window untouched (R254, R255, R256). -/
def Obligations.ClearPanelResult : Prop :=
  ∀ (s : State) (bpat apat : Byte), s.inited = true → ∃ t, exec (.clearPanel bpat apat) s = .next t ∧
    Observed s t (expectInit s.profile s.needReset s.pwr .full ++
      expectPlanes s.profile ⟨0, 0, s.profile.width, s.profile.height⟩
        (fun q _ _ => match q with | .black => bpat | .accent => apat) ++
      expectSeq s.profile s.profile.seqRefreshFull ++ expectSeq s.profile s.profile.seqPowerOff) ∧
    t = { s.withPanelSide t with pwr := false, needReset := s.profile.wakeNeedsReset }

/-- WRITE_IMAGE: REJECT where the profile cannot take the rectangle, else init and the clipped writes; power stays on (R262). The
draw number d of the free source bytes is the model's own (log 7). -/
def Obligations.WriteImageResult : Prop :=
  ∀ (s : State) (f : ImageFlags), s.inited = true →
    (s.profile.partialOk = false → operandRect s ≠ ⟨0, 0, s.profile.width, s.profile.height⟩ →
      exec (.writeImage f) s = .next { s with diag := s.diag ||| 0x02#6 }) ∧
    ((s.profile.partialOk = true ∨ operandRect s = ⟨0, 0, s.profile.width, s.profile.height⟩) →
      ∃ t d, exec (.writeImage f) s = .next t ∧ Observed s t (expectImage s d f) ∧
        t = { s.withPanelSide t with pwr := true, needReset := false })

/-- DRAW_IMAGE: as WRITE_IMAGE, then the refresh of its mode, and power off in full mode (R266). -/
def Obligations.DrawImageResult : Prop :=
  ∀ (s : State) (f : ImageFlags), s.inited = true →
    (s.profile.partialOk = false → operandRect s ≠ ⟨0, 0, s.profile.width, s.profile.height⟩ →
      exec (.drawImage f) s = .next { s with diag := s.diag ||| 0x02#6 }) ∧
    (s.profile.partialOk = true →
      ∃ t d, exec (.drawImage f) s = .next t ∧
        Observed s t (expectImage s d f ++ expectSeq s.profile s.profile.seqRefreshPartial) ∧
        t = { s.withPanelSide t with pwr := true, needReset := false }) ∧
    (s.profile.partialOk = false → operandRect s = ⟨0, 0, s.profile.width, s.profile.height⟩ →
      ∃ t d, exec (.drawImage f) s = .next t ∧
        Observed s t (expectImage s d f ++ expectSeq s.profile s.profile.seqRefreshFull ++
          expectSeq s.profile s.profile.seqPowerOff) ∧
        t = { s.withPanelSide t with pwr := false, needReset := s.profile.wakeNeedsReset })

/-- The image clip: byte-aligned; a panel pixel is written exactly when the widened bitmap covers it; a non-empty rectangle lies
in the panel (R263). -/
def Obligations.ImageClipCutsToThePanel : Prop :=
  ∀ (p : Profile) (R : Rect), p.wf = true →
    (imgWindow p R).x % 8 = 0 ∧ (imgWindow p R).w % 8 = 0 ∧ imgDx R % 8 = 0 ∧ 0 ≤ imgDx R ∧ 0 ≤ imgDy R ∧
    ((imgWindow p R).w ≠ 0 → (imgWindow p R).h ≠ 0 → (imgWindow p R).inPanel p) ∧
    ∀ X Y : Int, 0 ≤ X → X < p.width → 0 ≤ Y → Y < p.height →
      ((imgWindow p R).has X Y ↔
        (R.x - R.x % 8 ≤ X ∧ X < R.x - R.x % 8 + 8 * (if 0 < R.w then (R.w + 7) / 8 else 0) ∧ R.y ≤ Y ∧ Y < R.y + R.h))

/-- The image byte source: every position of the clipped rectangle takes the bitmap byte that belongs there, from within the
bitmap, and inverts it if INVERT; a missing accent bitmap gives 0x00 (R261, R264). -/
def Obligations.ImageBytesComeFromTheBitmap : Prop :=
  ∀ (s : State) (f : ImageFlags) (q : Plane) (c Y : Int), s.profile.wf = true →
    (c, Y) ∈ (imgWindow s.profile (operandRect s)).cells →
    ∃ row byte : Int, ∃ base : Word,
      row = (if f.mirrorY then (operandRect s).h - 1 - (Y - (operandRect s).y) else Y - (operandRect s).y) ∧
      0 ≤ row ∧ row < (operandRect s).h ∧
      byte = c - (operandRect s).x / 8 ∧ 0 ≤ byte ∧ byte < ((operandRect s).w + 7) / 8 ∧
      base = (match q with | .black => s.op.argSrc0 | .accent => s.op.argSrc1) ∧
      s.imgByte f q c Y =
        (if q = .accent ∧ f.hasAccent = false then 0x00#8
         else if f.invert = true then
           ~~~(s.srcRead q (if f.prog then .prog else .data)
             (BitVec.ofInt 32 (base.toNat + row * (((operandRect s).w + 7) / 8) + byte)))
         else
           s.srcRead q (if f.prog then .prog else .data)
             (BitVec.ofInt 32 (base.toNat + row * (((operandRect s).w + 7) / 8) + byte)))

/-- A byte the host has stored while the engine is idle is what the engine reads there, and no other byte changes (R64); stored
while a command executes it is a free value, which this says nothing about (R75; log 7). -/
def Obligations.StoredSourceBytesAreRead : Prop :=
  ∀ (s : State) (sp : Space) (addr : Word) (b : Byte) (rest : List Input), s.inputs = .hostStore sp addr b :: rest →
    ∃ t, step s = .next t ∧
      t = { s with inputs := rest, srcData := t.srcData, srcProg := t.srcProg, raced := t.raced } ∧
      (∀ q sp' addr', (sp', addr') ≠ (sp, addr) → t.srcRead q sp' addr' = s.srcRead q sp' addr') ∧
      (s.busy = false → t.raced = s.raced ∧ ((sp, addr.toNat) ∉ s.raced → ∀ q, t.srcRead q sp addr = b)) ∧
      (s.busy = true → ∀ q, t.srcRead q sp addr = Config.freeSrcByte s.draws sp q addr)

/-! ## The whole machine -/

/-- The profile is fixed: no step changes it (R3); and events already sent stay sent: the wire trace only grows (R73, R310). -/
def Obligations.StepsKeepTheProfileAndTheTrace : Prop :=
  ∀ s t : State, step s = .next t → t.profile = s.profile ∧ ∃ evs, t.wire = s.wire ++ evs

/-- No step faults or refuses: every failure is a DIAG bit or a silent no-op (R280). -/
def Obligations.NoStepEverStops : Prop := ∀ s : State, ∃ t, step s = .next t

/-- The engine's invariant holds after reset, for every admitted profile (R50, Safety.lean). Its clauses on the frame buffer hold
because the model's reset buffer is blank, which R50 does not say (log 2); the profile of `State.reset` is the model's choice
(log 1), and so are the planes' list form (log 16) and the empty sources (log 7). -/
def Obligations.ResetMeetsTheInvariant : Prop := (∀ p : Profile, p.wf = true → (State.resetFor p).Inv) ∧ State.reset.Inv

/-- Every step keeps the engine's invariant: committed cursors name pages (R43), the phase is 0 outside a pass and without
TWO_PASS (R44), windows are aligned and in the panel (R237), the power state (1, 1) never occurs (R296), CS and RST rest at 1
(R184), the memories keep the canonical form of their lists (the model's own form: log 16), and no pixel has both plane bits
set. R130 (b) says the last from a cleared buffer; that a hardware reset keeps it rests on the blank reset buffer, which is the
model's choice (log 2). -/
def Obligations.EveryStepKeepsTheInvariant : Prop := ∀ s t : State, s.Inv → step s = .next t → t.Inv

/-- CONT: shown by STATUS; set by BEGIN_FRAME, set by ADVANCE_PAGE to whether a pass is still active ("continue") or not ("done", or
no pass), cleared by INIT, written by no other command (R31). -/
def Obligations.ContIsThePageProtocolsAnswer : Prop :=
  ∀ (s t : State) (i : Instr), s.inited = true → exec i s = .next t →
    (i = .beginFrame → t.cont = true) ∧
    (i = .advancePage → t.cont = decide (t.cursor ≠ none)) ∧
    (i = .init → t.cont = false) ∧
    (t.busRead 4 0x14).getLsbD 1 = t.cont ∧
    (i ≠ .beginFrame → i ≠ .advancePage → i ≠ .init → t.cont = s.cont)

/-- The geometry state is written only by SET_ROTATION (R47). -/
def Obligations.OnlySetRotationWritesTheGeometry : Prop :=
  ∀ (s t : State) (i : Instr), exec i s = .next t → (∀ r m, i ≠ .setRotation r m) → t.rot = s.rot ∧ t.mirror = s.mirror

/-- The frame buffer is written only by FILL, the pixel commands, INIT, BEGIN_FRAME and ADVANCE_PAGE, and no other command but
ADVANCE_PAGE reads it: the rest give the same result whatever it holds (R48). -/
def Obligations.OnlyBufferCommandsTouchTheBuffer : Prop :=
  ∀ (s : State) (i : Instr) (b a : Memory), (∀ c, i ≠ .fill c) → (∀ c, i ≠ .setPixel c) → (∀ c, i ≠ .setPixelPhys c) →
    i ≠ .init → i ≠ .beginFrame → i ≠ .advancePage →
    ∃ t, exec i s = .next t ∧ t.fbBlack = s.fbBlack ∧ t.fbAccent = s.fbAccent ∧
      exec i { s with fbBlack := b, fbAccent := a } = .next { t with fbBlack := b, fbAccent := a }

/-- The latched pass mode and window are read-only for the rest of the pass, and the Update Window cannot change while a pass is
active (R145, R231). -/
def Obligations.PassWindowIsFrozen : Prop :=
  ∀ (s t : State) (i : Instr), exec i s = .next t → i ≠ .init →
    (i ≠ .beginFrame → t.passPartial = s.passPartial ∧ t.passWin = s.passWin) ∧
    (s.cursor ≠ none → t.winMode = s.winMode ∧ t.win = s.win)

/-- Bulk and power commands are not refused for a pass and leave its state alone (R256). -/
def Obligations.BulkCommandsLeaveThePassAlone : Prop :=
  ∀ (s : State) (i : Instr), (i = .powerOff ∨ (∃ b a, i = .clearPanel b a) ∨ (∃ f, i = .writeImage f) ∨ (∃ f, i = .drawImage f)) →
    ∃ t, exec i s = .next t ∧ t.cursor = s.cursor ∧ t.phase = s.phase ∧ t.passPartial = s.passPartial ∧
      t.passWin = s.passWin ∧ t.cont = s.cont ∧ t.fbBlack = s.fbBlack ∧ t.fbAccent = s.fbAccent ∧
      ∀ cur ph pp pw co b a,
        exec i { s with
          cursor := cur, phase := ph, passPartial := pp, passWin := pw, cont := co, fbBlack := b, fbAccent := a } =
        .next { t with
          cursor := cur, phase := ph, passPartial := pp, passWin := pw, cont := co, fbBlack := b, fbAccent := a }
end

