-- ==== Sys2Proof/Laws/Memory.lean ====
section
/-!
SUPPORT. The laws of byte memories: read after write, other addresses, and the canonical forms kept by every operation.
-/

namespace Sys2Proof.Machine

variable {m : Memory} {k j : Nat} {v : Byte}

theorem Memory.lookup_insert_self : (m.insert k v).lookup k = some v := by
  induction m with
  | nil => simp [Memory.insert, Memory.lookup]
  | cons c m ih =>
    obtain ⟨a, b⟩ := c
    unfold Memory.insert
    split
    · simp [Memory.lookup]
    · split
      · simp [Memory.lookup]
      · rename_i h1 h2
        simp [Memory.lookup, h1, h2, ih]

theorem Memory.lookup_insert_other (h : j ≠ k) : (m.insert k v).lookup j = m.lookup j := by
  induction m with
  | nil => simp [Memory.insert, Memory.lookup, h]
  | cons c m ih =>
    obtain ⟨a, b⟩ := c
    unfold Memory.insert
    split
    · rename_i h1
      subst h1
      simp only [Memory.lookup, h, if_false]
    · split
      · rename_i h1 h2
        simp only [Memory.lookup, h, if_false]
        by_cases hj : j < k
        · have : j ≠ a := by omega
          have : j < a := by omega
          simp [*]
        · simp [hj]
      · simp [Memory.lookup, ih]

theorem Memory.lookup_none_of_lt (h : ∀ c ∈ m, k < c.1) : m.lookup k = none := by
  cases m with
  | nil => rfl
  | cons c m =>
    obtain ⟨a, b⟩ := c
    have := h (a, b) (by simp)
    have h1 : k ≠ a := by simp at this; omega
    simp only [Memory.lookup, h1, if_false]
    simp at this
    simp [this]

theorem Memory.lookup_erase_self (h : m.wf) : (m.erase k).lookup k = none := by
  induction m with
  | nil => rfl
  | cons c m ih =>
    obtain ⟨a, b⟩ := c
    have hc := List.pairwise_cons.1 h
    unfold Memory.erase
    split
    · rename_i h1
      subst h1
      exact Memory.lookup_none_of_lt fun d hd => hc.1 d hd
    · rename_i h1
      split
      · rename_i h2
        simp [Memory.lookup, h1, h2]
      · rename_i h2
        simp [Memory.lookup, h1, h2, ih hc.2]

theorem Memory.lookup_erase_other (h : m.wf) (hj : j ≠ k) : (m.erase k).lookup j = m.lookup j := by
  induction m with
  | nil => rfl
  | cons c m ih =>
    obtain ⟨a, b⟩ := c
    have hc := List.pairwise_cons.1 h
    unfold Memory.erase
    split
    · rename_i h1
      subst h1
      simp only [Memory.lookup, hj, if_false]
      split
      · rename_i hlt
        exact Memory.lookup_none_of_lt fun d hd => Nat.lt_trans hlt (hc.1 d hd)
      · rfl
    · split
      · rfl
      · simp [Memory.lookup, ih hc.2]

theorem Memory.mem_insert {c : Host.Cell} (h : c ∈ m.insert k v) : c = (k, v) ∨ c ∈ m := by
  induction m with
  | nil => simpa [Memory.insert] using h
  | cons d m ih =>
    obtain ⟨a, b⟩ := d
    unfold Memory.insert at h
    split at h
    · simp at h; rcases h with h | h
      · exact .inl h
      · exact .inr (by simp [h])
    · split at h
      · simpa using h
      · simp at h
        rcases h with h | h
        · exact .inr (by simp [h])
        · rcases ih h with h | h
          · exact .inl h
          · exact .inr (by simp [h])

theorem Memory.mem_erase {c : Host.Cell} (h : c ∈ m.erase k) : c ∈ m := by
  induction m with
  | nil => exact h
  | cons d m ih =>
    obtain ⟨a, b⟩ := d
    unfold Memory.erase at h
    split at h
    · exact List.mem_cons_of_mem _ h
    · split at h
      · exact h
      · simp only [List.mem_cons] at h ⊢
        exact h.imp id ih

theorem Memory.insert_wf (h : m.wf) : (m.insert k v).wf := by
  induction m with
  | nil => simp [Memory.insert]
  | cons c m ih =>
    obtain ⟨a, b⟩ := c
    have hc := List.pairwise_cons.1 h
    unfold Memory.insert
    split
    · rename_i h1
      subst h1
      exact List.pairwise_cons.2 ⟨fun d hd => hc.1 d hd, hc.2⟩
    · split
      · rename_i h1 h2
        refine List.pairwise_cons.2 ⟨fun d hd => ?_, h⟩
        rcases List.mem_cons.1 hd with rfl | hd
        · exact h2
        · exact Nat.lt_trans h2 (hc.1 d hd)
      · rename_i h1 h2
        refine List.pairwise_cons.2 ⟨fun d hd => ?_, ih hc.2⟩
        rcases Memory.mem_insert hd with rfl | hd
        · show a < k; omega
        · exact hc.1 d hd

theorem Memory.erase_wf (h : m.wf) : (m.erase k).wf := by
  induction m with
  | nil => exact h
  | cons c m ih =>
    obtain ⟨a, b⟩ := c
    have hc := List.pairwise_cons.1 h
    unfold Memory.erase
    split
    · exact hc.2
    · split
      · exact h
      · exact List.pairwise_cons.2 ⟨fun d hd => hc.1 d (Memory.mem_erase hd), ih hc.2⟩

/-- Writing a byte reads back. -/
theorem Memory.readByte_writeByte_self (h : m.wf) : (m.writeByte k v).readByte k = v := by
  unfold Memory.writeByte Memory.readByte
  split
  · rename_i hv
    rw [Memory.lookup_erase_self h, hv]; rfl
  · rw [Memory.lookup_insert_self]; rfl

/-- Writing a byte leaves every other byte alone. -/
theorem Memory.readByte_writeByte_other (h : m.wf) (hj : j ≠ k) : (m.writeByte k v).readByte j = m.readByte j := by
  unfold Memory.writeByte Memory.readByte
  split
  · rw [Memory.lookup_erase_other h hj]
  · rw [Memory.lookup_insert_other hj]

/-- Writing a byte below the capacity keeps a plane's canonical form. -/
theorem Memory.writeByte_wfPlane {cap : Nat} (h : m.wfPlane cap) (hk : k < cap) : (m.writeByte k v).wfPlane cap := by
  unfold Memory.writeByte
  split
  · exact ⟨Memory.erase_wf h.1, fun c hc => h.2 c (Memory.mem_erase hc)⟩
  · rename_i hv
    refine ⟨Memory.insert_wf h.1, fun c hc => ?_⟩
    rcases Memory.mem_insert hc with rfl | hc
    · exact ⟨hk, hv⟩
    · exact h.2 c hc

/-- Filling a plane gives the canonical form. -/
theorem Memory.filled_wfPlane (cap : Nat) (v : Byte) : (Memory.filled cap v).wfPlane cap := by
  unfold Memory.filled
  split
  · simp [Memory.wfPlane]
  · rename_i hv
    refine ⟨?_, ?_⟩
    · rw [Memory.wf, List.pairwise_map]
      exact List.pairwise_lt_range
    · intro c hc
      obtain ⟨i, hi, rfl⟩ := List.mem_map.1 hc
      exact ⟨List.mem_range.1 hi, hv⟩

/-- Provisioning a byte keeps a source space's canonical form. -/
theorem Memory.insert_wfSource (h : m.wfSource) (hk : k < 2 ^ 32) : (m.insert k v).wfSource := by
  refine ⟨Memory.insert_wf h.1, fun c hc => ?_⟩
  rcases Memory.mem_insert hc with rfl | hc
  · exact hk
  · exact h.2 c hc

theorem Memory.lookup_of_mem (h : m.wf) (hc : (k, v) ∈ m) : m.lookup k = some v := by
  induction m with
  | nil => simp at hc
  | cons c m ih =>
    obtain ⟨a, b⟩ := c
    have hp := List.pairwise_cons.1 h
    rcases List.mem_cons.1 hc with he | hm
    · cases he; simp [Memory.lookup]
    · have := hp.1 _ hm
      have h1 : k ≠ a := by simp at this; omega
      have h2 : ¬ k < a := by simp at this; omega
      simp [Memory.lookup, h1, h2, ih hp.2 hm]

theorem Memory.lookup_mem (hl : m.lookup k = some v) : (k, v) ∈ m := by
  induction m with
  | nil => simp [Memory.lookup] at hl
  | cons c m ih =>
    obtain ⟨a, b⟩ := c
    unfold Memory.lookup at hl
    split at hl
    · rename_i h; cases hl; subst h; simp
    · split at hl
      · cases hl
      · exact List.mem_cons_of_mem _ (ih hl)

/-- What a filled plane reads as. -/
theorem Memory.readByte_filled (cap i : Nat) (v : Byte) :
    (Memory.filled cap v).readByte i = if i < cap then v else blankByte := by
  have hwf := (Memory.filled_wfPlane cap v).1
  by_cases hv : v = blankByte
  · subst hv; simp [Memory.filled, Memory.readByte, Memory.lookup]
  · have hmem : ∀ j w, (j, w) ∈ Memory.filled cap v ↔ j < cap ∧ w = v := by
      intro j w
      simp only [Memory.filled, if_neg hv, List.mem_map, List.mem_range, Prod.mk.injEq]
      constructor
      · rintro ⟨a, ha, rfl, rfl⟩; exact ⟨ha, rfl⟩
      · rintro ⟨ha, rfl⟩; exact ⟨j, ha, rfl, rfl⟩
    split
    · rename_i hi
      simp [Memory.readByte, Memory.lookup_of_mem hwf ((hmem i v).2 ⟨hi, rfl⟩)]
    · rename_i hi
      cases hl : (Memory.filled cap v).lookup i with
      | none => simp [Memory.readByte, hl]
      | some w => exact absurd ((hmem i w).1 (Memory.lookup_mem hl)).1 hi

@[simp] theorem Memory.readByte_nil (i : Nat) : Memory.readByte [] i = blankByte := rfl

end Sys2Proof.Machine
end

