-- ==== Sys2Proof/Laws/State.lean ====
section
/-!
SUPPORT. What each small update of the state leaves alone, field by field, and what it writes: no later proof unfolds a record
update.
-/

namespace Sys2Proof.Machine

/-! ### What the updates write -/

@[simp] theorem State.emit_wire (s : State) (e : WireEvent) : (s.emit e).wire = s.wire ++ [e] := rfl

@[simp] theorem State.emit_pins (s : State) (e : WireEvent) :
    (s.emit e).pins = e.pinActions.foldl Pins.after s.pins := rfl

@[simp] theorem State.emitCmd_wire (s : State) (b : Byte) : (s.emitCmd b).wire = s.wire ++ [.cmd b] := rfl

@[simp] theorem State.raise_diag (s : State) (d : Diag) : (s.raise d).diag = s.diag ||| d.mask := rfl

@[simp] theorem State.resetPulse_needReset (s : State) : s.resetPulse.needReset = false := rfl

@[simp] theorem State.plane_black (s : State) : s.plane .black = s.fbBlack := rfl

@[simp] theorem State.plane_accent (s : State) : s.plane .accent = s.fbAccent := rfl

@[simp] theorem State.withPlane_black (s : State) (m : Memory) : s.withPlane .black m = { s with fbBlack := m } := rfl

@[simp] theorem State.withPlane_accent (s : State) (m : Memory) : s.withPlane .accent m = { s with fbAccent := m } := rfl

@[simp] theorem State.clearFB_fbBlack (s : State) : s.clearFB.fbBlack = [] := rfl

@[simp] theorem State.clearFB_fbAccent (s : State) : s.clearFB.fbAccent = [] := rfl

@[simp] theorem State.commit_busy (s : State) : s.commit.busy = false := rfl

@[simp] theorem State.commit_raced (s : State) : s.commit.raced = [] := rfl

@[simp] theorem State.issue_busy (s : State) (v : Word) : (s.issue v).busy = true := rfl

@[simp] theorem State.issue_op (s : State) (v : Word) :
    (s.issue v).op = { cmd := v, argXY := s.argXY, argWH := s.argWH, argSrc0 := s.argSrc0, argSrc1 := s.argSrc1 } := rfl

/-! ### What the updates leave alone -/

/-! ### `emit` -/

@[simp] theorem State.emit_profile (s : State) (e : WireEvent) : (s.emit e).profile = s.profile := rfl

@[simp] theorem State.emit_inited (s : State) (e : WireEvent) : (s.emit e).inited = s.inited := rfl

@[simp] theorem State.emit_cursor (s : State) (e : WireEvent) : (s.emit e).cursor = s.cursor := rfl

@[simp] theorem State.emit_phase (s : State) (e : WireEvent) : (s.emit e).phase = s.phase := rfl

@[simp] theorem State.emit_passPartial (s : State) (e : WireEvent) : (s.emit e).passPartial = s.passPartial := rfl

@[simp] theorem State.emit_passWin (s : State) (e : WireEvent) : (s.emit e).passWin = s.passWin := rfl

@[simp] theorem State.emit_winMode (s : State) (e : WireEvent) : (s.emit e).winMode = s.winMode := rfl

@[simp] theorem State.emit_win (s : State) (e : WireEvent) : (s.emit e).win = s.win := rfl

@[simp] theorem State.emit_rot (s : State) (e : WireEvent) : (s.emit e).rot = s.rot := rfl

@[simp] theorem State.emit_mirror (s : State) (e : WireEvent) : (s.emit e).mirror = s.mirror := rfl

@[simp] theorem State.emit_pwr (s : State) (e : WireEvent) : (s.emit e).pwr = s.pwr := rfl

@[simp] theorem State.emit_needReset (s : State) (e : WireEvent) : (s.emit e).needReset = s.needReset := rfl

@[simp] theorem State.emit_cont (s : State) (e : WireEvent) : (s.emit e).cont = s.cont := rfl

@[simp] theorem State.emit_busy (s : State) (e : WireEvent) : (s.emit e).busy = s.busy := rfl

@[simp] theorem State.emit_lastBusyUs (s : State) (e : WireEvent) : (s.emit e).lastBusyUs = s.lastBusyUs := rfl

@[simp] theorem State.emit_diag (s : State) (e : WireEvent) : (s.emit e).diag = s.diag := rfl

@[simp] theorem State.emit_fbBlack (s : State) (e : WireEvent) : (s.emit e).fbBlack = s.fbBlack := rfl

@[simp] theorem State.emit_fbAccent (s : State) (e : WireEvent) : (s.emit e).fbAccent = s.fbAccent := rfl

@[simp] theorem State.emit_op (s : State) (e : WireEvent) : (s.emit e).op = s.op := rfl

@[simp] theorem State.emit_argXY (s : State) (e : WireEvent) : (s.emit e).argXY = s.argXY := rfl

@[simp] theorem State.emit_argWH (s : State) (e : WireEvent) : (s.emit e).argWH = s.argWH := rfl

@[simp] theorem State.emit_argSrc0 (s : State) (e : WireEvent) : (s.emit e).argSrc0 = s.argSrc0 := rfl

@[simp] theorem State.emit_argSrc1 (s : State) (e : WireEvent) : (s.emit e).argSrc1 = s.argSrc1 := rfl

@[simp] theorem State.emit_srcData (s : State) (e : WireEvent) : (s.emit e).srcData = s.srcData := rfl

@[simp] theorem State.emit_srcProg (s : State) (e : WireEvent) : (s.emit e).srcProg = s.srcProg := rfl

@[simp] theorem State.emit_raced (s : State) (e : WireEvent) : (s.emit e).raced = s.raced := rfl

@[simp] theorem State.emit_polls (s : State) (e : WireEvent) : (s.emit e).polls = s.polls := rfl

@[simp] theorem State.emit_draws (s : State) (e : WireEvent) : (s.emit e).draws = s.draws := rfl

@[simp] theorem State.emit_inputs (s : State) (e : WireEvent) : (s.emit e).inputs = s.inputs := rfl

@[simp] theorem State.emit_readData (s : State) (e : WireEvent) : (s.emit e).readData = s.readData := rfl


/-! ### `emitCmd` -/

@[simp] theorem State.emitCmd_profile (s : State) (b : Byte) : (s.emitCmd b).profile = s.profile := rfl

@[simp] theorem State.emitCmd_inited (s : State) (b : Byte) : (s.emitCmd b).inited = s.inited := rfl

@[simp] theorem State.emitCmd_cursor (s : State) (b : Byte) : (s.emitCmd b).cursor = s.cursor := rfl

@[simp] theorem State.emitCmd_phase (s : State) (b : Byte) : (s.emitCmd b).phase = s.phase := rfl

@[simp] theorem State.emitCmd_passPartial (s : State) (b : Byte) : (s.emitCmd b).passPartial = s.passPartial := rfl

@[simp] theorem State.emitCmd_passWin (s : State) (b : Byte) : (s.emitCmd b).passWin = s.passWin := rfl

@[simp] theorem State.emitCmd_winMode (s : State) (b : Byte) : (s.emitCmd b).winMode = s.winMode := rfl

@[simp] theorem State.emitCmd_win (s : State) (b : Byte) : (s.emitCmd b).win = s.win := rfl

@[simp] theorem State.emitCmd_rot (s : State) (b : Byte) : (s.emitCmd b).rot = s.rot := rfl

@[simp] theorem State.emitCmd_mirror (s : State) (b : Byte) : (s.emitCmd b).mirror = s.mirror := rfl

@[simp] theorem State.emitCmd_pwr (s : State) (b : Byte) : (s.emitCmd b).pwr = s.pwr := rfl

@[simp] theorem State.emitCmd_needReset (s : State) (b : Byte) : (s.emitCmd b).needReset = s.needReset := rfl

@[simp] theorem State.emitCmd_cont (s : State) (b : Byte) : (s.emitCmd b).cont = s.cont := rfl

@[simp] theorem State.emitCmd_busy (s : State) (b : Byte) : (s.emitCmd b).busy = s.busy := rfl

@[simp] theorem State.emitCmd_lastBusyUs (s : State) (b : Byte) : (s.emitCmd b).lastBusyUs = s.lastBusyUs := rfl

@[simp] theorem State.emitCmd_diag (s : State) (b : Byte) : (s.emitCmd b).diag = s.diag := rfl

@[simp] theorem State.emitCmd_fbBlack (s : State) (b : Byte) : (s.emitCmd b).fbBlack = s.fbBlack := rfl

@[simp] theorem State.emitCmd_fbAccent (s : State) (b : Byte) : (s.emitCmd b).fbAccent = s.fbAccent := rfl

@[simp] theorem State.emitCmd_op (s : State) (b : Byte) : (s.emitCmd b).op = s.op := rfl

@[simp] theorem State.emitCmd_argXY (s : State) (b : Byte) : (s.emitCmd b).argXY = s.argXY := rfl

@[simp] theorem State.emitCmd_argWH (s : State) (b : Byte) : (s.emitCmd b).argWH = s.argWH := rfl

@[simp] theorem State.emitCmd_argSrc0 (s : State) (b : Byte) : (s.emitCmd b).argSrc0 = s.argSrc0 := rfl

@[simp] theorem State.emitCmd_argSrc1 (s : State) (b : Byte) : (s.emitCmd b).argSrc1 = s.argSrc1 := rfl

@[simp] theorem State.emitCmd_srcData (s : State) (b : Byte) : (s.emitCmd b).srcData = s.srcData := rfl

@[simp] theorem State.emitCmd_srcProg (s : State) (b : Byte) : (s.emitCmd b).srcProg = s.srcProg := rfl

@[simp] theorem State.emitCmd_raced (s : State) (b : Byte) : (s.emitCmd b).raced = s.raced := rfl

@[simp] theorem State.emitCmd_polls (s : State) (b : Byte) : (s.emitCmd b).polls = s.polls := rfl

@[simp] theorem State.emitCmd_draws (s : State) (b : Byte) : (s.emitCmd b).draws = s.draws := rfl

@[simp] theorem State.emitCmd_inputs (s : State) (b : Byte) : (s.emitCmd b).inputs = s.inputs := rfl

@[simp] theorem State.emitCmd_readData (s : State) (b : Byte) : (s.emitCmd b).readData = s.readData := rfl


/-! ### `emitData` -/

@[simp] theorem State.emitData_profile (s : State) (bs : List Byte) : (s.emitData bs).profile = s.profile := by
  unfold State.emitData; split <;> rfl

@[simp] theorem State.emitData_inited (s : State) (bs : List Byte) : (s.emitData bs).inited = s.inited := by
  unfold State.emitData; split <;> rfl

@[simp] theorem State.emitData_cursor (s : State) (bs : List Byte) : (s.emitData bs).cursor = s.cursor := by
  unfold State.emitData; split <;> rfl

@[simp] theorem State.emitData_phase (s : State) (bs : List Byte) : (s.emitData bs).phase = s.phase := by
  unfold State.emitData; split <;> rfl

@[simp] theorem State.emitData_passPartial (s : State) (bs : List Byte) : (s.emitData bs).passPartial = s.passPartial := by
  unfold State.emitData; split <;> rfl

@[simp] theorem State.emitData_passWin (s : State) (bs : List Byte) : (s.emitData bs).passWin = s.passWin := by
  unfold State.emitData; split <;> rfl

@[simp] theorem State.emitData_winMode (s : State) (bs : List Byte) : (s.emitData bs).winMode = s.winMode := by
  unfold State.emitData; split <;> rfl

@[simp] theorem State.emitData_win (s : State) (bs : List Byte) : (s.emitData bs).win = s.win := by
  unfold State.emitData; split <;> rfl

@[simp] theorem State.emitData_rot (s : State) (bs : List Byte) : (s.emitData bs).rot = s.rot := by
  unfold State.emitData; split <;> rfl

@[simp] theorem State.emitData_mirror (s : State) (bs : List Byte) : (s.emitData bs).mirror = s.mirror := by
  unfold State.emitData; split <;> rfl

@[simp] theorem State.emitData_pwr (s : State) (bs : List Byte) : (s.emitData bs).pwr = s.pwr := by
  unfold State.emitData; split <;> rfl

@[simp] theorem State.emitData_needReset (s : State) (bs : List Byte) : (s.emitData bs).needReset = s.needReset := by
  unfold State.emitData; split <;> rfl

@[simp] theorem State.emitData_cont (s : State) (bs : List Byte) : (s.emitData bs).cont = s.cont := by
  unfold State.emitData; split <;> rfl

@[simp] theorem State.emitData_busy (s : State) (bs : List Byte) : (s.emitData bs).busy = s.busy := by
  unfold State.emitData; split <;> rfl

@[simp] theorem State.emitData_lastBusyUs (s : State) (bs : List Byte) : (s.emitData bs).lastBusyUs = s.lastBusyUs := by
  unfold State.emitData; split <;> rfl

@[simp] theorem State.emitData_diag (s : State) (bs : List Byte) : (s.emitData bs).diag = s.diag := by
  unfold State.emitData; split <;> rfl

@[simp] theorem State.emitData_fbBlack (s : State) (bs : List Byte) : (s.emitData bs).fbBlack = s.fbBlack := by
  unfold State.emitData; split <;> rfl

@[simp] theorem State.emitData_fbAccent (s : State) (bs : List Byte) : (s.emitData bs).fbAccent = s.fbAccent := by
  unfold State.emitData; split <;> rfl

@[simp] theorem State.emitData_op (s : State) (bs : List Byte) : (s.emitData bs).op = s.op := by
  unfold State.emitData; split <;> rfl

@[simp] theorem State.emitData_argXY (s : State) (bs : List Byte) : (s.emitData bs).argXY = s.argXY := by
  unfold State.emitData; split <;> rfl

@[simp] theorem State.emitData_argWH (s : State) (bs : List Byte) : (s.emitData bs).argWH = s.argWH := by
  unfold State.emitData; split <;> rfl

@[simp] theorem State.emitData_argSrc0 (s : State) (bs : List Byte) : (s.emitData bs).argSrc0 = s.argSrc0 := by
  unfold State.emitData; split <;> rfl

@[simp] theorem State.emitData_argSrc1 (s : State) (bs : List Byte) : (s.emitData bs).argSrc1 = s.argSrc1 := by
  unfold State.emitData; split <;> rfl

@[simp] theorem State.emitData_srcData (s : State) (bs : List Byte) : (s.emitData bs).srcData = s.srcData := by
  unfold State.emitData; split <;> rfl

@[simp] theorem State.emitData_srcProg (s : State) (bs : List Byte) : (s.emitData bs).srcProg = s.srcProg := by
  unfold State.emitData; split <;> rfl

@[simp] theorem State.emitData_raced (s : State) (bs : List Byte) : (s.emitData bs).raced = s.raced := by
  unfold State.emitData; split <;> rfl

@[simp] theorem State.emitData_polls (s : State) (bs : List Byte) : (s.emitData bs).polls = s.polls := by
  unfold State.emitData; split <;> rfl

@[simp] theorem State.emitData_draws (s : State) (bs : List Byte) : (s.emitData bs).draws = s.draws := by
  unfold State.emitData; split <;> rfl

@[simp] theorem State.emitData_inputs (s : State) (bs : List Byte) : (s.emitData bs).inputs = s.inputs := by
  unfold State.emitData; split <;> rfl

@[simp] theorem State.emitData_readData (s : State) (bs : List Byte) : (s.emitData bs).readData = s.readData := by
  unfold State.emitData; split <;> rfl


/-! ### `raise` -/

@[simp] theorem State.raise_profile (s : State) (d : Diag) : (s.raise d).profile = s.profile := rfl

@[simp] theorem State.raise_inited (s : State) (d : Diag) : (s.raise d).inited = s.inited := rfl

@[simp] theorem State.raise_cursor (s : State) (d : Diag) : (s.raise d).cursor = s.cursor := rfl

@[simp] theorem State.raise_phase (s : State) (d : Diag) : (s.raise d).phase = s.phase := rfl

@[simp] theorem State.raise_passPartial (s : State) (d : Diag) : (s.raise d).passPartial = s.passPartial := rfl

@[simp] theorem State.raise_passWin (s : State) (d : Diag) : (s.raise d).passWin = s.passWin := rfl

@[simp] theorem State.raise_winMode (s : State) (d : Diag) : (s.raise d).winMode = s.winMode := rfl

@[simp] theorem State.raise_win (s : State) (d : Diag) : (s.raise d).win = s.win := rfl

@[simp] theorem State.raise_rot (s : State) (d : Diag) : (s.raise d).rot = s.rot := rfl

@[simp] theorem State.raise_mirror (s : State) (d : Diag) : (s.raise d).mirror = s.mirror := rfl

@[simp] theorem State.raise_pwr (s : State) (d : Diag) : (s.raise d).pwr = s.pwr := rfl

@[simp] theorem State.raise_needReset (s : State) (d : Diag) : (s.raise d).needReset = s.needReset := rfl

@[simp] theorem State.raise_cont (s : State) (d : Diag) : (s.raise d).cont = s.cont := rfl

@[simp] theorem State.raise_busy (s : State) (d : Diag) : (s.raise d).busy = s.busy := rfl

@[simp] theorem State.raise_lastBusyUs (s : State) (d : Diag) : (s.raise d).lastBusyUs = s.lastBusyUs := rfl

@[simp] theorem State.raise_fbBlack (s : State) (d : Diag) : (s.raise d).fbBlack = s.fbBlack := rfl

@[simp] theorem State.raise_fbAccent (s : State) (d : Diag) : (s.raise d).fbAccent = s.fbAccent := rfl

@[simp] theorem State.raise_op (s : State) (d : Diag) : (s.raise d).op = s.op := rfl

@[simp] theorem State.raise_argXY (s : State) (d : Diag) : (s.raise d).argXY = s.argXY := rfl

@[simp] theorem State.raise_argWH (s : State) (d : Diag) : (s.raise d).argWH = s.argWH := rfl

@[simp] theorem State.raise_argSrc0 (s : State) (d : Diag) : (s.raise d).argSrc0 = s.argSrc0 := rfl

@[simp] theorem State.raise_argSrc1 (s : State) (d : Diag) : (s.raise d).argSrc1 = s.argSrc1 := rfl

@[simp] theorem State.raise_pins (s : State) (d : Diag) : (s.raise d).pins = s.pins := rfl

@[simp] theorem State.raise_wire (s : State) (d : Diag) : (s.raise d).wire = s.wire := rfl

@[simp] theorem State.raise_srcData (s : State) (d : Diag) : (s.raise d).srcData = s.srcData := rfl

@[simp] theorem State.raise_srcProg (s : State) (d : Diag) : (s.raise d).srcProg = s.srcProg := rfl

@[simp] theorem State.raise_raced (s : State) (d : Diag) : (s.raise d).raced = s.raced := rfl

@[simp] theorem State.raise_polls (s : State) (d : Diag) : (s.raise d).polls = s.polls := rfl

@[simp] theorem State.raise_draws (s : State) (d : Diag) : (s.raise d).draws = s.draws := rfl

@[simp] theorem State.raise_inputs (s : State) (d : Diag) : (s.raise d).inputs = s.inputs := rfl

@[simp] theorem State.raise_readData (s : State) (d : Diag) : (s.raise d).readData = s.readData := rfl


/-! ### `clearDiag` -/

@[simp] theorem State.clearDiag_profile (s : State) (v : Word) : (s.clearDiag v).profile = s.profile := rfl

@[simp] theorem State.clearDiag_inited (s : State) (v : Word) : (s.clearDiag v).inited = s.inited := rfl

@[simp] theorem State.clearDiag_cursor (s : State) (v : Word) : (s.clearDiag v).cursor = s.cursor := rfl

@[simp] theorem State.clearDiag_phase (s : State) (v : Word) : (s.clearDiag v).phase = s.phase := rfl

@[simp] theorem State.clearDiag_passPartial (s : State) (v : Word) : (s.clearDiag v).passPartial = s.passPartial := rfl

@[simp] theorem State.clearDiag_passWin (s : State) (v : Word) : (s.clearDiag v).passWin = s.passWin := rfl

@[simp] theorem State.clearDiag_winMode (s : State) (v : Word) : (s.clearDiag v).winMode = s.winMode := rfl

@[simp] theorem State.clearDiag_win (s : State) (v : Word) : (s.clearDiag v).win = s.win := rfl

@[simp] theorem State.clearDiag_rot (s : State) (v : Word) : (s.clearDiag v).rot = s.rot := rfl

@[simp] theorem State.clearDiag_mirror (s : State) (v : Word) : (s.clearDiag v).mirror = s.mirror := rfl

@[simp] theorem State.clearDiag_pwr (s : State) (v : Word) : (s.clearDiag v).pwr = s.pwr := rfl

@[simp] theorem State.clearDiag_needReset (s : State) (v : Word) : (s.clearDiag v).needReset = s.needReset := rfl

@[simp] theorem State.clearDiag_cont (s : State) (v : Word) : (s.clearDiag v).cont = s.cont := rfl

@[simp] theorem State.clearDiag_busy (s : State) (v : Word) : (s.clearDiag v).busy = s.busy := rfl

@[simp] theorem State.clearDiag_lastBusyUs (s : State) (v : Word) : (s.clearDiag v).lastBusyUs = s.lastBusyUs := rfl

@[simp] theorem State.clearDiag_fbBlack (s : State) (v : Word) : (s.clearDiag v).fbBlack = s.fbBlack := rfl

@[simp] theorem State.clearDiag_fbAccent (s : State) (v : Word) : (s.clearDiag v).fbAccent = s.fbAccent := rfl

@[simp] theorem State.clearDiag_op (s : State) (v : Word) : (s.clearDiag v).op = s.op := rfl

@[simp] theorem State.clearDiag_argXY (s : State) (v : Word) : (s.clearDiag v).argXY = s.argXY := rfl

@[simp] theorem State.clearDiag_argWH (s : State) (v : Word) : (s.clearDiag v).argWH = s.argWH := rfl

@[simp] theorem State.clearDiag_argSrc0 (s : State) (v : Word) : (s.clearDiag v).argSrc0 = s.argSrc0 := rfl

@[simp] theorem State.clearDiag_argSrc1 (s : State) (v : Word) : (s.clearDiag v).argSrc1 = s.argSrc1 := rfl

@[simp] theorem State.clearDiag_pins (s : State) (v : Word) : (s.clearDiag v).pins = s.pins := rfl

@[simp] theorem State.clearDiag_wire (s : State) (v : Word) : (s.clearDiag v).wire = s.wire := rfl

@[simp] theorem State.clearDiag_srcData (s : State) (v : Word) : (s.clearDiag v).srcData = s.srcData := rfl

@[simp] theorem State.clearDiag_srcProg (s : State) (v : Word) : (s.clearDiag v).srcProg = s.srcProg := rfl

@[simp] theorem State.clearDiag_raced (s : State) (v : Word) : (s.clearDiag v).raced = s.raced := rfl

@[simp] theorem State.clearDiag_polls (s : State) (v : Word) : (s.clearDiag v).polls = s.polls := rfl

@[simp] theorem State.clearDiag_draws (s : State) (v : Word) : (s.clearDiag v).draws = s.draws := rfl

@[simp] theorem State.clearDiag_inputs (s : State) (v : Word) : (s.clearDiag v).inputs = s.inputs := rfl

@[simp] theorem State.clearDiag_readData (s : State) (v : Word) : (s.clearDiag v).readData = s.readData := rfl


/-! ### `withPlane` -/

@[simp] theorem State.withPlane_profile (s : State) (q : Plane) (m : Memory) : (s.withPlane q m).profile = s.profile := by
  cases q <;> rfl

@[simp] theorem State.withPlane_inited (s : State) (q : Plane) (m : Memory) : (s.withPlane q m).inited = s.inited := by
  cases q <;> rfl

@[simp] theorem State.withPlane_cursor (s : State) (q : Plane) (m : Memory) : (s.withPlane q m).cursor = s.cursor := by
  cases q <;> rfl

@[simp] theorem State.withPlane_phase (s : State) (q : Plane) (m : Memory) : (s.withPlane q m).phase = s.phase := by
  cases q <;> rfl

@[simp] theorem State.withPlane_passPartial (s : State) (q : Plane) (m : Memory) : (s.withPlane q m).passPartial = s.passPartial := by
  cases q <;> rfl

@[simp] theorem State.withPlane_passWin (s : State) (q : Plane) (m : Memory) : (s.withPlane q m).passWin = s.passWin := by
  cases q <;> rfl

@[simp] theorem State.withPlane_winMode (s : State) (q : Plane) (m : Memory) : (s.withPlane q m).winMode = s.winMode := by
  cases q <;> rfl

@[simp] theorem State.withPlane_win (s : State) (q : Plane) (m : Memory) : (s.withPlane q m).win = s.win := by
  cases q <;> rfl

@[simp] theorem State.withPlane_rot (s : State) (q : Plane) (m : Memory) : (s.withPlane q m).rot = s.rot := by
  cases q <;> rfl

@[simp] theorem State.withPlane_mirror (s : State) (q : Plane) (m : Memory) : (s.withPlane q m).mirror = s.mirror := by
  cases q <;> rfl

@[simp] theorem State.withPlane_pwr (s : State) (q : Plane) (m : Memory) : (s.withPlane q m).pwr = s.pwr := by
  cases q <;> rfl

@[simp] theorem State.withPlane_needReset (s : State) (q : Plane) (m : Memory) : (s.withPlane q m).needReset = s.needReset := by
  cases q <;> rfl

@[simp] theorem State.withPlane_cont (s : State) (q : Plane) (m : Memory) : (s.withPlane q m).cont = s.cont := by
  cases q <;> rfl

@[simp] theorem State.withPlane_busy (s : State) (q : Plane) (m : Memory) : (s.withPlane q m).busy = s.busy := by
  cases q <;> rfl

@[simp] theorem State.withPlane_lastBusyUs (s : State) (q : Plane) (m : Memory) : (s.withPlane q m).lastBusyUs = s.lastBusyUs := by
  cases q <;> rfl

@[simp] theorem State.withPlane_diag (s : State) (q : Plane) (m : Memory) : (s.withPlane q m).diag = s.diag := by
  cases q <;> rfl

@[simp] theorem State.withPlane_op (s : State) (q : Plane) (m : Memory) : (s.withPlane q m).op = s.op := by
  cases q <;> rfl

@[simp] theorem State.withPlane_argXY (s : State) (q : Plane) (m : Memory) : (s.withPlane q m).argXY = s.argXY := by
  cases q <;> rfl

@[simp] theorem State.withPlane_argWH (s : State) (q : Plane) (m : Memory) : (s.withPlane q m).argWH = s.argWH := by
  cases q <;> rfl

@[simp] theorem State.withPlane_argSrc0 (s : State) (q : Plane) (m : Memory) : (s.withPlane q m).argSrc0 = s.argSrc0 := by
  cases q <;> rfl

@[simp] theorem State.withPlane_argSrc1 (s : State) (q : Plane) (m : Memory) : (s.withPlane q m).argSrc1 = s.argSrc1 := by
  cases q <;> rfl

@[simp] theorem State.withPlane_pins (s : State) (q : Plane) (m : Memory) : (s.withPlane q m).pins = s.pins := by
  cases q <;> rfl

@[simp] theorem State.withPlane_wire (s : State) (q : Plane) (m : Memory) : (s.withPlane q m).wire = s.wire := by
  cases q <;> rfl

@[simp] theorem State.withPlane_srcData (s : State) (q : Plane) (m : Memory) : (s.withPlane q m).srcData = s.srcData := by
  cases q <;> rfl

@[simp] theorem State.withPlane_srcProg (s : State) (q : Plane) (m : Memory) : (s.withPlane q m).srcProg = s.srcProg := by
  cases q <;> rfl

@[simp] theorem State.withPlane_raced (s : State) (q : Plane) (m : Memory) : (s.withPlane q m).raced = s.raced := by
  cases q <;> rfl

@[simp] theorem State.withPlane_polls (s : State) (q : Plane) (m : Memory) : (s.withPlane q m).polls = s.polls := by
  cases q <;> rfl

@[simp] theorem State.withPlane_draws (s : State) (q : Plane) (m : Memory) : (s.withPlane q m).draws = s.draws := by
  cases q <;> rfl

@[simp] theorem State.withPlane_inputs (s : State) (q : Plane) (m : Memory) : (s.withPlane q m).inputs = s.inputs := by
  cases q <;> rfl

@[simp] theorem State.withPlane_readData (s : State) (q : Plane) (m : Memory) : (s.withPlane q m).readData = s.readData := by
  cases q <;> rfl


/-! ### `clearFB` -/

@[simp] theorem State.clearFB_profile (s : State) : (s.clearFB).profile = s.profile := rfl

@[simp] theorem State.clearFB_inited (s : State) : (s.clearFB).inited = s.inited := rfl

@[simp] theorem State.clearFB_cursor (s : State) : (s.clearFB).cursor = s.cursor := rfl

@[simp] theorem State.clearFB_phase (s : State) : (s.clearFB).phase = s.phase := rfl

@[simp] theorem State.clearFB_passPartial (s : State) : (s.clearFB).passPartial = s.passPartial := rfl

@[simp] theorem State.clearFB_passWin (s : State) : (s.clearFB).passWin = s.passWin := rfl

@[simp] theorem State.clearFB_winMode (s : State) : (s.clearFB).winMode = s.winMode := rfl

@[simp] theorem State.clearFB_win (s : State) : (s.clearFB).win = s.win := rfl

@[simp] theorem State.clearFB_rot (s : State) : (s.clearFB).rot = s.rot := rfl

@[simp] theorem State.clearFB_mirror (s : State) : (s.clearFB).mirror = s.mirror := rfl

@[simp] theorem State.clearFB_pwr (s : State) : (s.clearFB).pwr = s.pwr := rfl

@[simp] theorem State.clearFB_needReset (s : State) : (s.clearFB).needReset = s.needReset := rfl

@[simp] theorem State.clearFB_cont (s : State) : (s.clearFB).cont = s.cont := rfl

@[simp] theorem State.clearFB_busy (s : State) : (s.clearFB).busy = s.busy := rfl

@[simp] theorem State.clearFB_lastBusyUs (s : State) : (s.clearFB).lastBusyUs = s.lastBusyUs := rfl

@[simp] theorem State.clearFB_diag (s : State) : (s.clearFB).diag = s.diag := rfl

@[simp] theorem State.clearFB_op (s : State) : (s.clearFB).op = s.op := rfl

@[simp] theorem State.clearFB_argXY (s : State) : (s.clearFB).argXY = s.argXY := rfl

@[simp] theorem State.clearFB_argWH (s : State) : (s.clearFB).argWH = s.argWH := rfl

@[simp] theorem State.clearFB_argSrc0 (s : State) : (s.clearFB).argSrc0 = s.argSrc0 := rfl

@[simp] theorem State.clearFB_argSrc1 (s : State) : (s.clearFB).argSrc1 = s.argSrc1 := rfl

@[simp] theorem State.clearFB_pins (s : State) : (s.clearFB).pins = s.pins := rfl

@[simp] theorem State.clearFB_wire (s : State) : (s.clearFB).wire = s.wire := rfl

@[simp] theorem State.clearFB_srcData (s : State) : (s.clearFB).srcData = s.srcData := rfl

@[simp] theorem State.clearFB_srcProg (s : State) : (s.clearFB).srcProg = s.srcProg := rfl

@[simp] theorem State.clearFB_raced (s : State) : (s.clearFB).raced = s.raced := rfl

@[simp] theorem State.clearFB_polls (s : State) : (s.clearFB).polls = s.polls := rfl

@[simp] theorem State.clearFB_draws (s : State) : (s.clearFB).draws = s.draws := rfl

@[simp] theorem State.clearFB_inputs (s : State) : (s.clearFB).inputs = s.inputs := rfl

@[simp] theorem State.clearFB_readData (s : State) : (s.clearFB).readData = s.readData := rfl


/-! ### `resetPulse` -/

@[simp] theorem State.resetPulse_profile (s : State) : (s.resetPulse).profile = s.profile := rfl

@[simp] theorem State.resetPulse_inited (s : State) : (s.resetPulse).inited = s.inited := rfl

@[simp] theorem State.resetPulse_cursor (s : State) : (s.resetPulse).cursor = s.cursor := rfl

@[simp] theorem State.resetPulse_phase (s : State) : (s.resetPulse).phase = s.phase := rfl

@[simp] theorem State.resetPulse_passPartial (s : State) : (s.resetPulse).passPartial = s.passPartial := rfl

@[simp] theorem State.resetPulse_passWin (s : State) : (s.resetPulse).passWin = s.passWin := rfl

@[simp] theorem State.resetPulse_winMode (s : State) : (s.resetPulse).winMode = s.winMode := rfl

@[simp] theorem State.resetPulse_win (s : State) : (s.resetPulse).win = s.win := rfl

@[simp] theorem State.resetPulse_rot (s : State) : (s.resetPulse).rot = s.rot := rfl

@[simp] theorem State.resetPulse_mirror (s : State) : (s.resetPulse).mirror = s.mirror := rfl

@[simp] theorem State.resetPulse_pwr (s : State) : (s.resetPulse).pwr = s.pwr := rfl

@[simp] theorem State.resetPulse_cont (s : State) : (s.resetPulse).cont = s.cont := rfl

@[simp] theorem State.resetPulse_busy (s : State) : (s.resetPulse).busy = s.busy := rfl

@[simp] theorem State.resetPulse_lastBusyUs (s : State) : (s.resetPulse).lastBusyUs = s.lastBusyUs := rfl

@[simp] theorem State.resetPulse_diag (s : State) : (s.resetPulse).diag = s.diag := rfl

@[simp] theorem State.resetPulse_fbBlack (s : State) : (s.resetPulse).fbBlack = s.fbBlack := rfl

@[simp] theorem State.resetPulse_fbAccent (s : State) : (s.resetPulse).fbAccent = s.fbAccent := rfl

@[simp] theorem State.resetPulse_op (s : State) : (s.resetPulse).op = s.op := rfl

@[simp] theorem State.resetPulse_argXY (s : State) : (s.resetPulse).argXY = s.argXY := rfl

@[simp] theorem State.resetPulse_argWH (s : State) : (s.resetPulse).argWH = s.argWH := rfl

@[simp] theorem State.resetPulse_argSrc0 (s : State) : (s.resetPulse).argSrc0 = s.argSrc0 := rfl

@[simp] theorem State.resetPulse_argSrc1 (s : State) : (s.resetPulse).argSrc1 = s.argSrc1 := rfl

@[simp] theorem State.resetPulse_srcData (s : State) : (s.resetPulse).srcData = s.srcData := rfl

@[simp] theorem State.resetPulse_srcProg (s : State) : (s.resetPulse).srcProg = s.srcProg := rfl

@[simp] theorem State.resetPulse_raced (s : State) : (s.resetPulse).raced = s.raced := rfl

@[simp] theorem State.resetPulse_polls (s : State) : (s.resetPulse).polls = s.polls := rfl

@[simp] theorem State.resetPulse_draws (s : State) : (s.resetPulse).draws = s.draws := rfl

@[simp] theorem State.resetPulse_inputs (s : State) : (s.resetPulse).inputs = s.inputs := rfl

@[simp] theorem State.resetPulse_readData (s : State) : (s.resetPulse).readData = s.readData := rfl


/-! ### `noteOutcome` -/

@[simp] theorem State.noteOutcome_profile (s : State) (o : BusyOutcome) : (s.noteOutcome o).profile = s.profile := by
  cases o <;> rfl

@[simp] theorem State.noteOutcome_inited (s : State) (o : BusyOutcome) : (s.noteOutcome o).inited = s.inited := by
  cases o <;> rfl

@[simp] theorem State.noteOutcome_cursor (s : State) (o : BusyOutcome) : (s.noteOutcome o).cursor = s.cursor := by
  cases o <;> rfl

@[simp] theorem State.noteOutcome_phase (s : State) (o : BusyOutcome) : (s.noteOutcome o).phase = s.phase := by
  cases o <;> rfl

@[simp] theorem State.noteOutcome_passPartial (s : State) (o : BusyOutcome) : (s.noteOutcome o).passPartial = s.passPartial := by
  cases o <;> rfl

@[simp] theorem State.noteOutcome_passWin (s : State) (o : BusyOutcome) : (s.noteOutcome o).passWin = s.passWin := by
  cases o <;> rfl

@[simp] theorem State.noteOutcome_winMode (s : State) (o : BusyOutcome) : (s.noteOutcome o).winMode = s.winMode := by
  cases o <;> rfl

@[simp] theorem State.noteOutcome_win (s : State) (o : BusyOutcome) : (s.noteOutcome o).win = s.win := by
  cases o <;> rfl

@[simp] theorem State.noteOutcome_rot (s : State) (o : BusyOutcome) : (s.noteOutcome o).rot = s.rot := by
  cases o <;> rfl

@[simp] theorem State.noteOutcome_mirror (s : State) (o : BusyOutcome) : (s.noteOutcome o).mirror = s.mirror := by
  cases o <;> rfl

@[simp] theorem State.noteOutcome_pwr (s : State) (o : BusyOutcome) : (s.noteOutcome o).pwr = s.pwr := by
  cases o <;> rfl

@[simp] theorem State.noteOutcome_needReset (s : State) (o : BusyOutcome) : (s.noteOutcome o).needReset = s.needReset := by
  cases o <;> rfl

@[simp] theorem State.noteOutcome_cont (s : State) (o : BusyOutcome) : (s.noteOutcome o).cont = s.cont := by
  cases o <;> rfl

@[simp] theorem State.noteOutcome_busy (s : State) (o : BusyOutcome) : (s.noteOutcome o).busy = s.busy := by
  cases o <;> rfl

@[simp] theorem State.noteOutcome_lastBusyUs (s : State) (o : BusyOutcome) : (s.noteOutcome o).lastBusyUs = s.lastBusyUs := by
  cases o <;> rfl

@[simp] theorem State.noteOutcome_fbBlack (s : State) (o : BusyOutcome) : (s.noteOutcome o).fbBlack = s.fbBlack := by
  cases o <;> rfl

@[simp] theorem State.noteOutcome_fbAccent (s : State) (o : BusyOutcome) : (s.noteOutcome o).fbAccent = s.fbAccent := by
  cases o <;> rfl

@[simp] theorem State.noteOutcome_op (s : State) (o : BusyOutcome) : (s.noteOutcome o).op = s.op := by
  cases o <;> rfl

@[simp] theorem State.noteOutcome_argXY (s : State) (o : BusyOutcome) : (s.noteOutcome o).argXY = s.argXY := by
  cases o <;> rfl

@[simp] theorem State.noteOutcome_argWH (s : State) (o : BusyOutcome) : (s.noteOutcome o).argWH = s.argWH := by
  cases o <;> rfl

@[simp] theorem State.noteOutcome_argSrc0 (s : State) (o : BusyOutcome) : (s.noteOutcome o).argSrc0 = s.argSrc0 := by
  cases o <;> rfl

@[simp] theorem State.noteOutcome_argSrc1 (s : State) (o : BusyOutcome) : (s.noteOutcome o).argSrc1 = s.argSrc1 := by
  cases o <;> rfl

@[simp] theorem State.noteOutcome_pins (s : State) (o : BusyOutcome) : (s.noteOutcome o).pins = s.pins := by
  cases o <;> rfl

@[simp] theorem State.noteOutcome_wire (s : State) (o : BusyOutcome) : (s.noteOutcome o).wire = s.wire := by
  cases o <;> rfl

@[simp] theorem State.noteOutcome_srcData (s : State) (o : BusyOutcome) : (s.noteOutcome o).srcData = s.srcData := by
  cases o <;> rfl

@[simp] theorem State.noteOutcome_srcProg (s : State) (o : BusyOutcome) : (s.noteOutcome o).srcProg = s.srcProg := by
  cases o <;> rfl

@[simp] theorem State.noteOutcome_raced (s : State) (o : BusyOutcome) : (s.noteOutcome o).raced = s.raced := by
  cases o <;> rfl

@[simp] theorem State.noteOutcome_polls (s : State) (o : BusyOutcome) : (s.noteOutcome o).polls = s.polls := by
  cases o <;> rfl

@[simp] theorem State.noteOutcome_draws (s : State) (o : BusyOutcome) : (s.noteOutcome o).draws = s.draws := by
  cases o <;> rfl

@[simp] theorem State.noteOutcome_inputs (s : State) (o : BusyOutcome) : (s.noteOutcome o).inputs = s.inputs := by
  cases o <;> rfl

@[simp] theorem State.noteOutcome_readData (s : State) (o : BusyOutcome) : (s.noteOutcome o).readData = s.readData := by
  cases o <;> rfl


/-! ### `issue` -/

@[simp] theorem State.issue_profile (s : State) (v : Word) : (s.issue v).profile = s.profile := rfl

@[simp] theorem State.issue_inited (s : State) (v : Word) : (s.issue v).inited = s.inited := rfl

@[simp] theorem State.issue_cursor (s : State) (v : Word) : (s.issue v).cursor = s.cursor := rfl

@[simp] theorem State.issue_phase (s : State) (v : Word) : (s.issue v).phase = s.phase := rfl

@[simp] theorem State.issue_passPartial (s : State) (v : Word) : (s.issue v).passPartial = s.passPartial := rfl

@[simp] theorem State.issue_passWin (s : State) (v : Word) : (s.issue v).passWin = s.passWin := rfl

@[simp] theorem State.issue_winMode (s : State) (v : Word) : (s.issue v).winMode = s.winMode := rfl

@[simp] theorem State.issue_win (s : State) (v : Word) : (s.issue v).win = s.win := rfl

@[simp] theorem State.issue_rot (s : State) (v : Word) : (s.issue v).rot = s.rot := rfl

@[simp] theorem State.issue_mirror (s : State) (v : Word) : (s.issue v).mirror = s.mirror := rfl

@[simp] theorem State.issue_pwr (s : State) (v : Word) : (s.issue v).pwr = s.pwr := rfl

@[simp] theorem State.issue_needReset (s : State) (v : Word) : (s.issue v).needReset = s.needReset := rfl

@[simp] theorem State.issue_cont (s : State) (v : Word) : (s.issue v).cont = s.cont := rfl

@[simp] theorem State.issue_lastBusyUs (s : State) (v : Word) : (s.issue v).lastBusyUs = s.lastBusyUs := rfl

@[simp] theorem State.issue_diag (s : State) (v : Word) : (s.issue v).diag = s.diag := rfl

@[simp] theorem State.issue_fbBlack (s : State) (v : Word) : (s.issue v).fbBlack = s.fbBlack := rfl

@[simp] theorem State.issue_fbAccent (s : State) (v : Word) : (s.issue v).fbAccent = s.fbAccent := rfl

@[simp] theorem State.issue_argXY (s : State) (v : Word) : (s.issue v).argXY = s.argXY := rfl

@[simp] theorem State.issue_argWH (s : State) (v : Word) : (s.issue v).argWH = s.argWH := rfl

@[simp] theorem State.issue_argSrc0 (s : State) (v : Word) : (s.issue v).argSrc0 = s.argSrc0 := rfl

@[simp] theorem State.issue_argSrc1 (s : State) (v : Word) : (s.issue v).argSrc1 = s.argSrc1 := rfl

@[simp] theorem State.issue_pins (s : State) (v : Word) : (s.issue v).pins = s.pins := rfl

@[simp] theorem State.issue_wire (s : State) (v : Word) : (s.issue v).wire = s.wire := rfl

@[simp] theorem State.issue_srcData (s : State) (v : Word) : (s.issue v).srcData = s.srcData := rfl

@[simp] theorem State.issue_srcProg (s : State) (v : Word) : (s.issue v).srcProg = s.srcProg := rfl

@[simp] theorem State.issue_raced (s : State) (v : Word) : (s.issue v).raced = s.raced := rfl

@[simp] theorem State.issue_polls (s : State) (v : Word) : (s.issue v).polls = s.polls := rfl

@[simp] theorem State.issue_draws (s : State) (v : Word) : (s.issue v).draws = s.draws := rfl

@[simp] theorem State.issue_inputs (s : State) (v : Word) : (s.issue v).inputs = s.inputs := rfl

@[simp] theorem State.issue_readData (s : State) (v : Word) : (s.issue v).readData = s.readData := rfl


/-! ### `commit` -/

@[simp] theorem State.commit_profile (s : State) : (s.commit).profile = s.profile := rfl

@[simp] theorem State.commit_inited (s : State) : (s.commit).inited = s.inited := rfl

@[simp] theorem State.commit_cursor (s : State) : (s.commit).cursor = s.cursor := rfl

@[simp] theorem State.commit_phase (s : State) : (s.commit).phase = s.phase := rfl

@[simp] theorem State.commit_passPartial (s : State) : (s.commit).passPartial = s.passPartial := rfl

@[simp] theorem State.commit_passWin (s : State) : (s.commit).passWin = s.passWin := rfl

@[simp] theorem State.commit_winMode (s : State) : (s.commit).winMode = s.winMode := rfl

@[simp] theorem State.commit_win (s : State) : (s.commit).win = s.win := rfl

@[simp] theorem State.commit_rot (s : State) : (s.commit).rot = s.rot := rfl

@[simp] theorem State.commit_mirror (s : State) : (s.commit).mirror = s.mirror := rfl

@[simp] theorem State.commit_pwr (s : State) : (s.commit).pwr = s.pwr := rfl

@[simp] theorem State.commit_needReset (s : State) : (s.commit).needReset = s.needReset := rfl

@[simp] theorem State.commit_cont (s : State) : (s.commit).cont = s.cont := rfl

@[simp] theorem State.commit_lastBusyUs (s : State) : (s.commit).lastBusyUs = s.lastBusyUs := rfl

@[simp] theorem State.commit_diag (s : State) : (s.commit).diag = s.diag := rfl

@[simp] theorem State.commit_fbBlack (s : State) : (s.commit).fbBlack = s.fbBlack := rfl

@[simp] theorem State.commit_fbAccent (s : State) : (s.commit).fbAccent = s.fbAccent := rfl

@[simp] theorem State.commit_op (s : State) : (s.commit).op = s.op := rfl

@[simp] theorem State.commit_argXY (s : State) : (s.commit).argXY = s.argXY := rfl

@[simp] theorem State.commit_argWH (s : State) : (s.commit).argWH = s.argWH := rfl

@[simp] theorem State.commit_argSrc0 (s : State) : (s.commit).argSrc0 = s.argSrc0 := rfl

@[simp] theorem State.commit_argSrc1 (s : State) : (s.commit).argSrc1 = s.argSrc1 := rfl

@[simp] theorem State.commit_pins (s : State) : (s.commit).pins = s.pins := rfl

@[simp] theorem State.commit_wire (s : State) : (s.commit).wire = s.wire := rfl

@[simp] theorem State.commit_srcData (s : State) : (s.commit).srcData = s.srcData := rfl

@[simp] theorem State.commit_srcProg (s : State) : (s.commit).srcProg = s.srcProg := rfl

@[simp] theorem State.commit_polls (s : State) : (s.commit).polls = s.polls := rfl

@[simp] theorem State.commit_draws (s : State) : (s.commit).draws = s.draws := rfl

@[simp] theorem State.commit_inputs (s : State) : (s.commit).inputs = s.inputs := rfl

@[simp] theorem State.commit_readData (s : State) : (s.commit).readData = s.readData := rfl


/-! ### `withSource` -/

@[simp] theorem State.withSource_profile (s : State) (sp : Space) (m : Memory) : (s.withSource sp m).profile = s.profile := by
  cases sp <;> rfl

@[simp] theorem State.withSource_inited (s : State) (sp : Space) (m : Memory) : (s.withSource sp m).inited = s.inited := by
  cases sp <;> rfl

@[simp] theorem State.withSource_cursor (s : State) (sp : Space) (m : Memory) : (s.withSource sp m).cursor = s.cursor := by
  cases sp <;> rfl

@[simp] theorem State.withSource_phase (s : State) (sp : Space) (m : Memory) : (s.withSource sp m).phase = s.phase := by
  cases sp <;> rfl

@[simp] theorem State.withSource_passPartial (s : State) (sp : Space) (m : Memory) : (s.withSource sp m).passPartial = s.passPartial := by
  cases sp <;> rfl

@[simp] theorem State.withSource_passWin (s : State) (sp : Space) (m : Memory) : (s.withSource sp m).passWin = s.passWin := by
  cases sp <;> rfl

@[simp] theorem State.withSource_winMode (s : State) (sp : Space) (m : Memory) : (s.withSource sp m).winMode = s.winMode := by
  cases sp <;> rfl

@[simp] theorem State.withSource_win (s : State) (sp : Space) (m : Memory) : (s.withSource sp m).win = s.win := by
  cases sp <;> rfl

@[simp] theorem State.withSource_rot (s : State) (sp : Space) (m : Memory) : (s.withSource sp m).rot = s.rot := by
  cases sp <;> rfl

@[simp] theorem State.withSource_mirror (s : State) (sp : Space) (m : Memory) : (s.withSource sp m).mirror = s.mirror := by
  cases sp <;> rfl

@[simp] theorem State.withSource_pwr (s : State) (sp : Space) (m : Memory) : (s.withSource sp m).pwr = s.pwr := by
  cases sp <;> rfl

@[simp] theorem State.withSource_needReset (s : State) (sp : Space) (m : Memory) : (s.withSource sp m).needReset = s.needReset := by
  cases sp <;> rfl

@[simp] theorem State.withSource_cont (s : State) (sp : Space) (m : Memory) : (s.withSource sp m).cont = s.cont := by
  cases sp <;> rfl

@[simp] theorem State.withSource_busy (s : State) (sp : Space) (m : Memory) : (s.withSource sp m).busy = s.busy := by
  cases sp <;> rfl

@[simp] theorem State.withSource_lastBusyUs (s : State) (sp : Space) (m : Memory) : (s.withSource sp m).lastBusyUs = s.lastBusyUs := by
  cases sp <;> rfl

@[simp] theorem State.withSource_diag (s : State) (sp : Space) (m : Memory) : (s.withSource sp m).diag = s.diag := by
  cases sp <;> rfl

@[simp] theorem State.withSource_fbBlack (s : State) (sp : Space) (m : Memory) : (s.withSource sp m).fbBlack = s.fbBlack := by
  cases sp <;> rfl

@[simp] theorem State.withSource_fbAccent (s : State) (sp : Space) (m : Memory) : (s.withSource sp m).fbAccent = s.fbAccent := by
  cases sp <;> rfl

@[simp] theorem State.withSource_op (s : State) (sp : Space) (m : Memory) : (s.withSource sp m).op = s.op := by
  cases sp <;> rfl

@[simp] theorem State.withSource_argXY (s : State) (sp : Space) (m : Memory) : (s.withSource sp m).argXY = s.argXY := by
  cases sp <;> rfl

@[simp] theorem State.withSource_argWH (s : State) (sp : Space) (m : Memory) : (s.withSource sp m).argWH = s.argWH := by
  cases sp <;> rfl

@[simp] theorem State.withSource_argSrc0 (s : State) (sp : Space) (m : Memory) : (s.withSource sp m).argSrc0 = s.argSrc0 := by
  cases sp <;> rfl

@[simp] theorem State.withSource_argSrc1 (s : State) (sp : Space) (m : Memory) : (s.withSource sp m).argSrc1 = s.argSrc1 := by
  cases sp <;> rfl

@[simp] theorem State.withSource_pins (s : State) (sp : Space) (m : Memory) : (s.withSource sp m).pins = s.pins := by
  cases sp <;> rfl

@[simp] theorem State.withSource_wire (s : State) (sp : Space) (m : Memory) : (s.withSource sp m).wire = s.wire := by
  cases sp <;> rfl

@[simp] theorem State.withSource_raced (s : State) (sp : Space) (m : Memory) : (s.withSource sp m).raced = s.raced := by
  cases sp <;> rfl

@[simp] theorem State.withSource_polls (s : State) (sp : Space) (m : Memory) : (s.withSource sp m).polls = s.polls := by
  cases sp <;> rfl

@[simp] theorem State.withSource_draws (s : State) (sp : Space) (m : Memory) : (s.withSource sp m).draws = s.draws := by
  cases sp <;> rfl

@[simp] theorem State.withSource_inputs (s : State) (sp : Space) (m : Memory) : (s.withSource sp m).inputs = s.inputs := by
  cases sp <;> rfl

@[simp] theorem State.withSource_readData (s : State) (sp : Space) (m : Memory) : (s.withSource sp m).readData = s.readData := by
  cases sp <;> rfl


end Sys2Proof.Machine
end

