-- ==== Sys2Proof/Laws/Panel.lean ====
section
/-!
SUPPORT. Once for each panel-side operation: the events it puts on the wire, and that it changes nothing else.
-/

namespace Sys2Proof.Machine

/-- Panel-side operations touch only the panel side and `needReset`. -/
structure PanelOnly (s t : State) : Prop where
  eq : t = { s.withPanelSide t with needReset := t.needReset }

theorem PanelOnly.refl (s : State) : PanelOnly s s := ⟨rfl⟩

theorem PanelOnly.trans {s t u : State} (h : PanelOnly s t) (k : PanelOnly t u) : PanelOnly s u := by
  constructor
  have h1 := h.eq
  have k1 := k.eq
  rw [h1] at k1
  exact k1

theorem PanelOnly.profile {s t : State} (h : PanelOnly s t) : t.profile = s.profile := by rw [h.eq]; rfl

theorem PanelOnly.pwr {s t : State} (h : PanelOnly s t) : t.pwr = s.pwr := by rw [h.eq]; rfl

theorem timeoutBits_nil : timeoutBits [] = 0#6 := rfl

theorem timeoutBits_append (a b : List WireEvent) : timeoutBits (a ++ b) = timeoutBits a ||| timeoutBits b := by
  unfold timeoutBits
  rw [List.any_append]
  cases a.any WireEvent.timedOut <;> cases b.any WireEvent.timedOut <;> decide

theorem Carries.refl (s : State) : Carries s s [] [] where
  admitted := .nil
  wire := by simp
  diag := by simp [timeoutBits_nil]
  busyUs := rfl
  pins := rfl

theorem Carries.trans {s t u : State} {a b : List Expected} {e f : List WireEvent} (hp : t.profile = s.profile)
    (h : Carries s t a e) (k : Carries t u b f) : Carries s u (a ++ b) (e ++ f) where
  admitted := List.rel_append h.admitted (hp ▸ k.admitted)
  wire := by rw [k.wire, h.wire, List.append_assoc]
  diag := by rw [k.diag, h.diag, timeoutBits_append, BitVec.or_assoc]
  busyUs := by rw [k.busyUs, h.busyUs, List.foldl_append]
  pins := by rw [k.pins, h.pins]; simp only [pinsAfter, List.foldl_append]

/-- What a panel-side operation does: the wire carries what is expected, and nothing else changes but perhaps `needReset`. -/
structure PanelStep (s t : State) (exp : List Expected) : Prop where
  observed : Observed s t exp
  only : PanelOnly s t

theorem PanelStep.refl (s : State) : PanelStep s s [] := ⟨⟨[], .refl s⟩, .refl s⟩

theorem PanelStep.trans {s t u : State} {a b : List Expected} (h : PanelStep s t a) (k : PanelStep t u b) :
    PanelStep s u (a ++ b) := by
  obtain ⟨e, he⟩ := h.observed
  obtain ⟨f, hf⟩ := k.observed
  exact ⟨⟨e ++ f, he.trans h.only.profile hf⟩, h.only.trans k.only⟩

/-- A change of fields that the panel side does not speak of carries no event. -/
theorem Observed.congr {s t t' : State} {a : List Expected} (h : Observed s t a) (hw : t'.wire = t.wire)
    (hd : t'.diag = t.diag) (hb : t'.lastBusyUs = t.lastBusyUs) (hp : t'.pins = t.pins) : Observed s t' a := by
  obtain ⟨e, he⟩ := h
  exact ⟨e, he.admitted, by rw [hw, he.wire], by rw [hd, he.diag], by rw [hb, he.busyUs], by rw [hp, he.pins]⟩

/-- A change of such fields before the operation carries no event either. -/
theorem Observed.congr_left {s s' t : State} {a : List Expected} (h : Observed s t a) (hpr : s'.profile = s.profile)
    (hw : s'.wire = s.wire) (hd : s'.diag = s.diag) (hb : s'.lastBusyUs = s.lastBusyUs) (hp : s'.pins = s.pins) :
    Observed s' t a := by
  obtain ⟨e, he⟩ := h
  exact ⟨e, hpr ▸ he.admitted, by rw [hw, he.wire], by rw [hd, he.diag], by rw [hb, he.busyUs], by rw [hp, he.pins]⟩

/-- Observations chain. -/
theorem Observed.trans {s t u : State} {a b : List Expected} (hp : t.profile = s.profile) (h : Observed s t a)
    (k : Observed t u b) : Observed s u (a ++ b) := by
  obtain ⟨e, he⟩ := h
  obtain ⟨f, hf⟩ := k
  exact ⟨e ++ f, he.trans hp hf⟩

/-- A fixed event that is no busy wait. -/
theorem emit_panelStep (s : State) (e : WireEvent) (h1 : e.timedOut = false) (h2 : ∀ u, e.busyUs u = u) :
    PanelStep s (s.emit e) [.event e] where
  observed := ⟨[e], {
    admitted := .cons rfl .nil
    wire := rfl
    diag := by simp [timeoutBits, h1]
    busyUs := by simp [h2]
    pins := rfl }⟩
  only := ⟨rfl⟩

theorem emitCmd_panelStep (s : State) (b : Byte) : PanelStep s (s.emitCmd b) (expectCmd b) :=
  emit_panelStep s _ rfl fun _ => rfl

theorem emitData_panelStep (s : State) (bs : List Byte) : PanelStep s (s.emitData bs) (expectData bs) := by
  unfold State.emitData expectData
  split
  · exact .refl s
  · exact emit_panelStep s _ rfl fun _ => rfl

theorem resetPulse_panelStep (s : State) : PanelStep s s.resetPulse (expectReset s.profile) where
  observed := (emit_panelStep s (.reset s.profile.rstLowMs s.profile.rstHighMs) rfl fun _ => rfl).observed.congr
    rfl rfl rfl rfl
  only := ⟨rfl⟩

/-- The polling loop answers only what R190 admits. -/
theorem pollLoop_admissible {p : Profile} {polls rest : List Poll} {o : BusyOutcome} {el : Nat}
    (h : pollLoop p polls = some (o, el, rest)) : o = .timeout → p.busyTimeoutUs ≤ el := by
  induction polls with
  | nil => cases h
  | cons a as ih =>
    unfold pollLoop at h
    split at h
    · cases h; intro h; cases h
    · split at h
      · rename_i h2
        cases h; intro _; exact h2
      · exact ih h

/-- Every busy answer is one R190 admits. -/
theorem busyAnswer_admissible (s : State) : s.busyAnswer.1 = .timeout → s.profile.busyTimeoutUs ≤ s.busyAnswer.2.1 := by
  unfold State.busyAnswer
  split
  · rename_i o el rest h
    exact pollLoop_admissible h
  · intro h
    simp only [freeOutcome] at h
    split at h
    · rename_i h2; exact h2.2
    · cases h

theorem busyWait_panelStep (s : State) : PanelStep s s.busyWait [.wait] where
  observed := by
    refine ⟨[.busy s.busyAnswer.1 s.busyAnswer.2.1], ?_⟩
    have ha := busyAnswer_admissible s
    unfold State.busyWait
    generalize s.busyAnswer = x at *
    obtain ⟨o, el, rest, n⟩ := x
    refine ⟨.cons ⟨o, el, rfl, ha⟩ .nil, ?_, ?_, rfl, ?_⟩
    · cases o <;> rfl
    · cases o
      · simp [State.noteOutcome, timeoutBits, WireEvent.timedOut]
      · rfl
    · cases o <;> rfl
  only := by
    unfold State.busyWait
    generalize s.busyAnswer = x
    obtain ⟨o, el, rest, n⟩ := x
    cases o <;> exact ⟨rfl⟩

theorem emitPair_panelStep (s : State) (b : Byte) (bs : List Byte) :
    PanelStep s ((s.emitCmd b).emitData bs) (expectPair b bs) :=
  (emitCmd_panelStep s b).trans (emitData_panelStep _ bs)

theorem lutSegments_panelStep (gs : List LutSegment) (s : State) :
    PanelStep s (gs.foldl State.lutSegment s) (gs.flatMap fun g => expectPair g.cmd g.bytes) := by
  induction gs generalizing s with
  | nil => exact .refl s
  | cons g gs ih =>
    rw [List.foldl_cons, List.flatMap_cons]
    exact (emitPair_panelStep s g.cmd g.bytes).trans (ih _)

theorem lutUpload_panelStep (s : State) (m : Mode) : PanelStep s (s.lutUpload m) (expectLut s.profile m) := by
  cases m <;> exact lutSegments_panelStep _ s

theorem runItem_panelStep (s : State) (i : SeqItem) : PanelStep s (s.runItem i) (expectItem s.profile i) := by
  cases i with
  | cmd b => exact emitCmd_panelStep s b
  | data bs => exact emitData_panelStep s bs
  | waitBusy => exact busyWait_panelStep s
  | delay ms => exact emit_panelStep s _ rfl fun _ => rfl
  | resetPulse => exact resetPulse_panelStep s
  | lut m => exact lutUpload_panelStep s m

/-- `RunSeq`: the expected events, nothing else. -/
theorem runSeq_panelStep (seq : List SeqItem) (s : State) : PanelStep s (s.runSeq seq) (expectSeq s.profile seq) := by
  induction seq generalizing s with
  | nil => exact .refl s
  | cons i seq ih =>
    have h := runItem_panelStep s i
    have k := ih (s.runItem i)
    rw [h.only.profile] at k
    exact h.trans k

theorem lutUpload_needReset (s : State) (m : Mode) : (s.lutUpload m).needReset = s.needReset := by
  unfold State.lutUpload
  generalize s.profile.lutOf m = gs
  induction gs generalizing s with
  | nil => rfl
  | cons g gs ih => rw [List.foldl_cons, ih]; simp [State.lutSegment]

theorem busyWait_needReset (s : State) : s.busyWait.needReset = s.needReset := by
  unfold State.busyWait
  generalize s.busyAnswer = x
  obtain ⟨o, el, rest, n⟩ := x
  cases o <;> rfl

/-- No sequence item sets `needReset`. -/
theorem runItem_needReset (s : State) (i : SeqItem) (h : s.needReset = false) : (s.runItem i).needReset = false := by
  cases i with
  | cmd b => exact h
  | data bs => simpa [State.runItem] using h
  | waitBusy => exact (busyWait_needReset s).trans h
  | delay ms => exact h
  | resetPulse => rfl
  | lut m => exact (lutUpload_needReset s m).trans h

theorem runSeq_needReset (seq : List SeqItem) (s : State) (h : s.needReset = false) : (s.runSeq seq).needReset = false := by
  induction seq generalizing s with
  | nil => exact h
  | cons i seq ih => exact ih _ (runItem_needReset s i h)

theorem resetIfNeeded_panelStep (s : State) :
    PanelStep s s.resetIfNeeded (if s.needReset = true then expectReset s.profile else []) := by
  unfold State.resetIfNeeded
  split
  · exact resetPulse_panelStep s
  · exact .refl s

theorem resetIfNeeded_needReset (s : State) : s.resetIfNeeded.needReset = false := by
  unfold State.resetIfNeeded
  split
  · rfl
  · rename_i h; simpa using h

theorem powerOnIfOff_observed (s : State) :
    Observed s s.powerOnIfOff (if s.pwr = true then [] else expectSeq s.profile s.profile.seqPowerOn) := by
  unfold State.powerOnIfOff
  cases h : s.pwr
  · exact (runSeq_panelStep s.profile.seqPowerOn s).observed.congr rfl rfl rfl rfl
  · exact (PanelStep.refl s).observed

/-- The init sequence of a mode is the one its expected events are written from. -/
theorem expectInit_eq (p : Profile) (needReset pwr : Bool) (m : Mode) :
    expectInit p needReset pwr m =
      (if needReset then expectReset p else []) ++ expectSeq p (p.seqInit m) ++
        (if pwr then [] else expectSeq p p.seqPowerOn) := by
  cases m <;> rfl

/-- `InitPanel`: the expected events; the panel is then on and needs no reset pulse; nothing else changes. -/
theorem initPanel_spec (s : State) (m : Mode) :
    Observed s (s.initPanel m) (expectInit s.profile s.needReset s.pwr m) ∧
      s.initPanel m = { s.withPanelSide (s.initPanel m) with needReset := false, pwr := true } := by
  have h1 := resetIfNeeded_panelStep s
  have h2 := runSeq_panelStep (s.profile.seqInit m) s.resetIfNeeded
  rw [h1.only.profile] at h2
  have h3 := h1.trans h2
  have hn := runSeq_needReset (s.profile.seqInit m) _ (resetIfNeeded_needReset s)
  rw [expectInit_eq]
  have ho := powerOnIfOff_observed (s.resetIfNeeded.runSeq (s.profile.seqInit m))
  rw [h3.only.pwr, h3.only.profile] at ho
  refine ⟨(h3.observed.trans h3.only.profile ho), ?_⟩
  unfold State.initPanel
  have he := h3.only.eq
  generalize s.resetIfNeeded.runSeq (s.profile.seqInit m) = u at *
  unfold State.powerOnIfOff
  split
  · rename_i hpw
    have h4 := runSeq_panelStep u.profile.seqPowerOn u
    have h5 := runSeq_needReset u.profile.seqPowerOn u hn
    have h6 := (h3.only.trans h4.only).eq
    generalize u.runSeq u.profile.seqPowerOn = w at *
    rw [h6, h5]
    rfl
  · rename_i hpw
    have hpw : u.pwr = true := by simpa using hpw
    rw [he] at hpw ⊢
    rw [hn]
    have hs : s.pwr = true := hpw
    obtain ⟨⟩ := s
    obtain ⟨⟩ := u
    simp_all [State.withPanelSide]

theorem powerOffIfOn_on (s : State) (h : s.pwr = true) :
    Observed s s.powerOffIfOn (expectSeq s.profile s.profile.seqPowerOff) ∧
      s.powerOffIfOn = { s.withPanelSide s.powerOffIfOn with needReset := s.powerOffIfOn.needReset, pwr := false } := by
  unfold State.powerOffIfOn
  rw [if_pos h]
  have h1 := runSeq_panelStep s.profile.seqPowerOff s
  refine ⟨h1.observed.congr rfl rfl rfl rfl, ?_⟩
  have h2 := h1.only.eq
  generalize s.runSeq s.profile.seqPowerOff = u at *
  rw [h2]
  rfl

theorem powerOffIfOn_needReset (s : State) (h : s.pwr = true) (hn : s.needReset = false) :
    s.powerOffIfOn.needReset = s.profile.wakeNeedsReset := by
  unfold State.powerOffIfOn
  rw [if_pos h]
  have h1 := runSeq_panelStep s.profile.seqPowerOff s
  simp [State.notePowerOff, runSeq_needReset _ _ hn, h1.only.profile]

/-- The ENTRY window: entry mode, ranges, pointers (R199 to R201). -/
theorem entryWindow_panelStep (s : State) (R : Rect) :
    PanelStep s ((s.entryMode.entryRanges R).entryPointers R)
      (expectPair s.profile.cmdEntry [s.profile.entryVal] ++
        expectPair s.profile.cmdXRange [columnByte R.x, columnByte (R.x + R.w - 1)] ++
        expectPair s.profile.cmdYRange [lowByte R.y, highByte R.y, lowByte (R.y + R.h - 1), highByte (R.y + R.h - 1)] ++
        expectPair s.profile.cmdXPtr [columnByte R.x] ++
        expectPair s.profile.cmdYPtr [lowByte R.y, highByte R.y]) := by
  simp only [State.entryPointers, State.entryRanges, State.entryMode, State.emitCmd_profile, State.emitData_profile]
  exact ((((emitPair_panelStep s _ _).trans (emitPair_panelStep _ _ _)).trans (emitPair_panelStep _ _ _)).trans
    (emitPair_panelStep _ _ _)).trans (emitPair_panelStep _ _ _)

/-- `SetWindow` sends the window of the profile's encoding and nothing else. -/
theorem setWindow_panelStep (s : State) (R : Rect) : PanelStep s (s.setWindow R) (expectWindow s.profile R) := by
  unfold State.setWindow expectWindow
  cases s.profile.winEnc
  · exact emitPair_panelStep s _ _
  · exact entryWindow_panelStep s R
  · exact .refl s

/-- `WriteRect` sends the window, the write command of the plane and the bytes. -/
theorem writeRect_panelStep (s : State) (q : Plane) (R : Rect) (bytes : List Byte) :
    PanelStep s (s.writeRect q R bytes) (expectWrite s.profile q R bytes) := by
  cases q <;> exact ((setWindow_panelStep s R).trans (emitCmd_panelStep _ _)).trans (emitData_panelStep _ _)

/-- Outside NIBBLE, `Enc` of the black plane is the one-plane stream (R203). -/
theorem encOne_eq_oneStream {p : Profile} (R : Rect) (src : ByteSource) (h : p.enc ≠ .nibble) :
    encOne p .black R src = oneStream p R src := by
  unfold encOne oneStream
  cases he : p.enc <;> simp_all

/-- `EmitPlanes` sends one write for each plane the profile streams, or one interleaved write. -/
theorem emitPlanes_panelStep (s : State) (R : Rect) (src : ByteSource) :
    PanelStep s (s.emitPlanes R src) (expectPlanes s.profile R src) := by
  unfold State.emitPlanes expectPlanes
  split
  · exact writeRect_panelStep s _ _ _
  · rename_i hn
    split
    · rw [encOne_eq_oneStream R src hn]
      exact writeRect_panelStep s _ _ _
    · have h := writeRect_panelStep s .black R (encPlain s.profile .black R src)
      have k := writeRect_panelStep (s.writeRect .black R (encPlain s.profile .black R src)) .accent R
        (encPlain s.profile .accent R src)
      rw [h.only.profile] at k
      exact h.trans k

/-- `Empty(R)` (R146). -/
theorem Rect.isEmpty_iff (R : Rect) : R.isEmpty = true ↔ R.w = 0 ∨ R.h = 0 := by simp [Rect.isEmpty]

/-- The byte positions of a rectangle are those of its columns and rows (R147, R203). -/
theorem Rect.mem_cells (R : Rect) (c Y : Int) :
    (c, Y) ∈ R.cells ↔ R.x / 8 ≤ c ∧ c < R.x / 8 + max 0 (R.w / 8) ∧ R.y ≤ Y ∧ Y < R.y + max 0 R.h := by
  unfold Rect.cells
  rw [List.mem_flatMap]
  constructor
  · rintro ⟨i, hi, hj⟩
    obtain ⟨j, hj, he⟩ := List.mem_map.1 hj
    rw [List.mem_range] at hi hj
    rw [Prod.mk.injEq] at he
    omega
  · rintro ⟨h1, h2, h3, h4⟩
    refine ⟨(Y - R.y).toNat, List.mem_range.2 (by omega), List.mem_map.2 ⟨(c - R.x / 8).toNat, List.mem_range.2 (by omega), ?_⟩⟩
    rw [Prod.mk.injEq]
    omega

/-- The page rectangle is the one of R142 and R146. -/
theorem pageRect_eq_byRule (s : State) (n : Nat) : s.pageRect n = pageRectByRule s n := rfl

/-- The slicer gives the buffer byte of R144 and R147. -/
theorem pageByte_eq_byRule (s : State) (n : Nat) : s.pageByte n = pageByteByRule s n := by
  funext q c Y
  cases q <;> rfl

/-- `StreamPage` sends what the resident page owes and nothing else. -/
theorem streamPage_panelStep (s : State) (n : Nat) : PanelStep s (s.streamPage n) (expectPage s n) := by
  unfold State.streamPage expectPage
  rw [pageRect_eq_byRule, pageByte_eq_byRule]
  simp only [Rect.isEmpty_iff]
  by_cases he : (pageRectByRule s n).w = 0 ∨ (pageRectByRule s n).h = 0
  · rw [if_pos he, if_pos he]
    exact .refl s
  rw [if_neg he, if_neg he]
  cases hs : s.profile.stream
  · rw [if_pos rfl]
    exact emitPlanes_panelStep s _ _
  rw [if_neg (by decide)]
  simp only [State.streamContinuous, pageRect_eq_byRule, pageByte_eq_byRule]
  by_cases ht : s.profile.twoPass = true
  · rw [if_pos ht, if_pos ht]
    cases s.phase <;> exact emitData_panelStep s _
  rw [if_neg ht, if_neg ht]
  by_cases hn : s.profile.enc = .nibble
  · rw [if_pos hn, if_pos hn]
    exact emitData_panelStep s _
  · rw [if_neg hn, if_neg hn, encOne_eq_oneStream _ _ hn]
    exact emitData_panelStep s _

/-- `Refresh` runs the refresh sequence of its mode. -/
theorem refresh_panelStep (s : State) (m : Mode) : PanelStep s (s.refresh m) (expectSeq s.profile (s.profile.seqRefresh m)) :=
  runSeq_panelStep _ s

theorem emitPlanes_needReset (s : State) (R : Rect) (src : ByteSource) :
    (s.emitPlanes R src).needReset = s.needReset := by
  have hw : ∀ (u : State) (R : Rect), (u.setWindow R).needReset = u.needReset := by
    intro u R
    unfold State.setWindow
    cases u.profile.winEnc <;> simp [State.setWindowAbs, State.entryPointers, State.entryRanges, State.entryMode]
  have hr : ∀ (u : State) (q : Plane) (R : Rect) (bs : List Byte), (u.writeRect q R bs).needReset = u.needReset := by
    intro u q R bs
    simp [State.writeRect, hw]
  unfold State.emitPlanes
  split
  · exact hr _ _ _ _
  · split
    · exact hr _ _ _ _
    · rw [hr, hr]

end Sys2Proof.Machine
end

