-- ==== Sys2Proof/Laws/Ops.lean ====
section
/-!
SUPPORT. What the shared operations of Machine/Ops.lean, Machine/FrameBuffer.lean and Machine/Registers.lean do, said once
each: performing a command, the bytes and bits of the buffer after a write, the row that holds a panel row, the reset flag
after a sequence, register accesses.
-/

namespace Sys2Proof.Machine

/-! ## Performing a command -/

/-- A command whose refusal checks pass has its effect. -/
theorem State.perform_of_accepted {s : State} {i : Instr} (e : State → State) (h : s.refusal i = none) :
    s.perform i e = .next (e s) := by simp [State.perform, h]

/-- A refused command sets one DIAG bit. -/
theorem State.perform_of_refused {s : State} {i : Instr} {d : Diag} (e : State → State) (h : s.refusal i = some d) :
    s.perform i e = .next (s.raise d) := by simp [State.perform, h]

/-- Performing a command always answers a next state: its effect, or the same state with one DIAG bit more. -/
theorem State.perform_cases (s : State) (i : Instr) (e : State → State) :
    (s.refusal i = none ∧ s.perform i e = .next (e s)) ∨ ∃ d, s.refusal i = some d ∧ s.perform i e = .next (s.raise d) := by
  cases h : s.refusal i with
  | none => exact .inl ⟨rfl, s.perform_of_accepted e h⟩
  | some d => exact .inr ⟨d, rfl, s.perform_of_refused e h⟩

/-- INIT passes every refusal check. -/
theorem State.refusal_init (s : State) : s.refusal .init = none := by
  simp [State.refusal, Instr.color?, isWindowCommand, isImageCommand]

/-- The refusal checks read the mode of the engine, the profile and the latch only. -/
theorem State.refusal_congr {s t : State} (i : Instr) (h1 : t.inited = s.inited) (h2 : t.cursor = s.cursor)
    (h3 : t.profile = s.profile) (h4 : t.op = s.op) : t.refusal i = s.refusal i := by
  have h5 : t.opRect = s.opRect := by simp [State.opRect, State.opX, State.opY, State.opW, State.opH, h4]
  unfold State.refusal State.active
  rw [h1, h2, h3, h5]

/-! ## Buffer bytes and bits -/

theorem State.fbRead_fbWrite_self (s : State) (q : Plane) (i : Nat) (v : Byte) (h : (s.plane q).wf) :
    (s.fbWrite q i v).fbRead q i = v := by
  cases q <;> exact Memory.readByte_writeByte_self h

theorem State.fbRead_fbWrite_other (s : State) (q q' : Plane) (i j : Nat) (v : Byte) (h : (s.plane q).wf)
    (hn : ¬ (q' = q ∧ j = i)) : (s.fbWrite q i v).fbRead q' j = s.fbRead q' j := by
  cases q <;> cases q' <;> first | rfl | exact Memory.readByte_writeByte_other h fun e => hn ⟨rfl, e⟩

theorem State.fbRead_fbFill_self (s : State) (q : Plane) (i : Nat) (v : Byte) :
    (s.fbFill q v).fbRead q i = if i < s.profile.cap then v else blankByte := by
  cases q <;> exact Memory.readByte_filled _ _ _

theorem State.fbRead_fbFill_other (s : State) (q q' : Plane) (i : Nat) (v : Byte) (h : q' ≠ q) :
    (s.fbFill q v).fbRead q' i = s.fbRead q' i := by
  cases q <;> cases q' <;> first | rfl | exact absurd rfl h

/-- After `ClearFB` every byte of both planes is blank (R120). -/
theorem State.fbRead_clearFB (s : State) (q : Plane) (i : Nat) : s.clearFB.fbRead q i = 0x00#8 := by
  cases q <;> simp [State.clearFB, State.fbFill, State.fbRead, Memory.filled, blankByte]

/-- A write keeps the rising order of every plane. -/
theorem State.fbWrite_wf (s : State) (q q' : Plane) (i : Nat) (v : Byte) (h : ∀ q, (s.plane q).wf) :
    ((s.fbWrite q i v).plane q').wf := by
  have hw : ∀ m : Memory, m.wf → (m.writeByte i v).wf := by
    intro m hm
    unfold Memory.writeByte
    split
    · exact Memory.erase_wf hm
    · exact Memory.insert_wf hm
  cases q <;> cases q' <;> first | exact h .black | exact h .accent | exact hw _ (h .black) | exact hw _ (h .accent)

theorem setBit_getLsbD (b : Byte) (j k : Nat) (hj : j < 8) :
    (b ||| 1#8 <<< k).getLsbD j = (decide (j = k) || b.getLsbD j) := by
  by_cases h : j = k
  · subst h; simp [hj]
  · rcases Nat.lt_or_ge j k with hk | hk
    · simp [hk, h]
    · have : j - k ≠ 0 := by omega
      simp [hj, h, this]

theorem clearBit_getLsbD (b : Byte) (j k : Nat) (hj : j < 8) :
    (b &&& ~~~(1#8 <<< k)).getLsbD j = (!decide (j = k) && b.getLsbD j) := by
  by_cases h : j = k
  · subst h; simp [hj]
  · rcases Nat.lt_or_ge j k with hk | hk
    · simp [hj, hk, h]
    · have : j - k ≠ 0 := by omega
      simp [hj, h, this]

/-- Setting a bit sets that bit of that byte of that plane and leaves every other bit alone. -/
theorem State.setInk_bit (s : State) (q q' : Plane) (i k i' k' : Nat) (h : (s.plane q).wf) (hk : k' < 8) :
    ((s.setInk q i k).fbRead q' i').getLsbD k' =
      (if q' = q ∧ i' = i ∧ k' = k then true else (s.fbRead q' i').getLsbD k') := by
  unfold State.setInk
  by_cases hq : q' = q ∧ i' = i
  · obtain ⟨rfl, rfl⟩ := hq
    rw [s.fbRead_fbWrite_self _ _ _ h, setBit_getLsbD _ _ _ hk]
    by_cases e : k' = k <;> simp [e]
  · rw [s.fbRead_fbWrite_other _ _ _ _ _ h hq, if_neg fun e => hq ⟨e.1, e.2.1⟩]

/-- Clearing a bit clears that bit of that byte of that plane and leaves every other bit alone. -/
theorem State.clearInk_bit (s : State) (q q' : Plane) (i k i' k' : Nat) (h : (s.plane q).wf) (hk : k' < 8) :
    ((s.clearInk q i k).fbRead q' i').getLsbD k' =
      (if q' = q ∧ i' = i ∧ k' = k then false else (s.fbRead q' i').getLsbD k') := by
  unfold State.clearInk
  by_cases hq : q' = q ∧ i' = i
  · obtain ⟨rfl, rfl⟩ := hq
    rw [s.fbRead_fbWrite_self _ _ _ h, clearBit_getLsbD _ _ _ hk]
    by_cases e : k' = k <;> simp [e]
  · rw [s.fbRead_fbWrite_other _ _ _ _ _ h hq, if_neg fun e => hq ⟨e.1, e.2.1⟩]

/-- Inking a pixel changes nothing but the two planes. -/
theorem State.ink_frame (s : State) (c : Color) (i k : Nat) :
    s.ink c i k = { s with fbBlack := (s.ink c i k).fbBlack, fbAccent := (s.ink c i k).fbAccent } := by
  cases c <;> simp only [State.ink, State.inkWhite, State.inkAccent, State.inkBlack] <;> (try split) <;> (try split) <;> rfl

/-- A provisioned byte that nothing races is what the engine reads (R64). -/
theorem State.srcRead_of_lookup {s : State} {sp : Space} {addr : Word} {b : Byte} (q : Plane)
    (hr : (sp, addr.toNat) ∉ s.raced) (h : (s.source sp).lookup addr.toNat = some b) : s.srcRead q sp addr = b := by
  simp [State.srcRead, hr, h]

/-- `BufRow(Y)` answers r exactly when Y is the r-th of the rows the buffer holds (R121). -/
theorem State.bufRow_eq_some (s : State) (Y : Int) (r : Nat) :
    s.bufRow Y = some r ↔
      match s.cursor with
      | some n => Y = s.profile.pageStart n + r ∧ (r : Int) < s.profile.pageRows n
      | none => Y = r ∧ (r : Int) < min s.profile.pageHeight s.profile.height := by
  unfold State.bufRow
  cases s.cursor
  · simp only [Option.ite_none_right_eq_some, Option.some.injEq]
    omega
  · simp only [Option.ite_none_right_eq_some, Option.some.injEq]
    omega

/-! ## The reset flag -/

theorem runItem_needReset_eq (s : State) (i : SeqItem) : (s.runItem i).needReset = (s.needReset && !(i == .resetPulse)) := by
  cases i with
  | cmd b => simp [State.runItem]
  | data bs => simp [State.runItem]
  | waitBusy => simp [State.runItem, busyWait_needReset]
  | delay ms => simp [State.runItem]
  | resetPulse => simp [State.runItem, State.resetPulse]
  | lut m => simp [State.runItem, lutUpload_needReset]

/-- A sequence clears `S.needReset` exactly when it holds a reset pulse (R46, R186, R191). -/
theorem runSeq_needReset_eq (seq : List SeqItem) (s : State) :
    (s.runSeq seq).needReset = (s.needReset && !seq.any fun i => i == .resetPulse) := by
  induction seq generalizing s with
  | nil => simp [State.runSeq]
  | cons i seq ih =>
    have h : s.runSeq (i :: seq) = (s.runItem i).runSeq seq := rfl
    rw [h, ih, runItem_needReset_eq, List.any_cons, Bool.not_or, Bool.and_assoc]

theorem streamPage_needReset (s : State) (n : Nat) : (s.streamPage n).needReset = s.needReset := by
  unfold State.streamPage
  split
  · rfl
  · cases s.profile.stream
    · exact emitPlanes_needReset s _ _
    · simp only [State.streamContinuous]
      split
      · simp
      · split <;> simp

/-! ## Register accesses -/

/-- Every register stands at its own offset (R23). -/
theorem regAt_offset (r : Reg) : regAt r.offset = some r := by cases r <;> decide

/-- An aligned 32-bit read of a register gives its value (R80). -/
theorem State.busRead_offset (s : State) (r : Reg) : s.busRead 4 r.offset = s.regValue r := by
  have h : validAccess 4 r.offset = true := by cases r <;> decide
  simp [State.busRead, h, regAt_offset]

/-- An aligned 32-bit write to a register is the register's write (R81). -/
theorem State.busWrite_offset (s : State) (r : Reg) (v : Word) : s.busWrite 4 r.offset v = s.writeReg r v := by
  have h : validAccess 4 r.offset = true := by cases r <;> decide
  simp [State.busWrite, h, regAt_offset]

/-- No register stands at or past offset 0x3C (R42). -/
theorem regAt_of_le {off : Nat} (h : 0x3C ≤ off) : regAt off = none := by
  unfold regAt
  rw [List.find?_eq_none]
  intro r _
  have : r.offset < 0x3C := by cases r <;> decide
  simp
  omega

end Sys2Proof.Machine
end

