-- ==== Sys2Proof/Laws/PerInstr.lean ====
section
/-!
SUPPORT. A family of statements made command by command: the encoder puts the OP of R87 in bits [7:0], whatever the fields
hold (R82, R87).
-/

namespace Sys2Proof.Laws.OpcodeField

/-- Bits [7:0] of the encoded command are its OP (R82, R87). -/
def Statement (i : Instr) : Prop := opField (encode i) = i.opcode

/-- The low byte of a word put together from 24 field bits and an opcode. -/
theorem low_byte (f : BitVec 24) (o : Byte) : opField (f ++ o) = o := by
  unfold opField
  ext k hk
  simp only [BitVec.getElem_extractLsb', BitVec.getLsbD_append]
  simp [hk]

theorem init : Statement .init := low_byte _ _
theorem setRotation (r : Rotation) (m : Bool) : Statement (.setRotation r m) := low_byte _ _
theorem setFullWindow : Statement .setFullWindow := low_byte _ _
theorem setPartialWindow : Statement .setPartialWindow := low_byte _ _
theorem fill (c : Color) : Statement (.fill c) := low_byte _ _
theorem setPixel (c : Color) : Statement (.setPixel c) := low_byte _ _
theorem setPixelPhys (c : Color) : Statement (.setPixelPhys c) := low_byte _ _
theorem beginFrame : Statement .beginFrame := low_byte _ _
theorem advancePage : Statement .advancePage := low_byte _ _
theorem powerOff : Statement .powerOff := low_byte _ _
theorem clearPanel (b a : Byte) : Statement (.clearPanel b a) := low_byte _ _
theorem writeImage (f : ImageFlags) : Statement (.writeImage f) := low_byte _ _
theorem drawImage (f : ImageFlags) : Statement (.drawImage f) := low_byte _ _

end Sys2Proof.Laws.OpcodeField
end

