-- ==== Sys2Proof/Machine/HostProgram.lean ====
section
/-!
DEFINITION. The host's programs (30_encoding.md R91 to R93, 42_pager.md R158) and how a host runs one against the machine. The host
is outside the engine (10_state.md R20, R21): none of this is machine state, and a statement that touches the engine does so
by one register access, as an input of `step`.
-/

namespace Sys2Proof.Machine

/-- A statement of a host program (R91). Labels are numbers. -/
inductive HostStmt where
  /-- `WR <reg>, <value>`. -/
  | wr (r : Reg) (v : Word)
  /-- `RD <reg>`. -/
  | rd (r : Reg)
  /-- `WAIT`. -/
  | wait
  /-- `BCONT <label>`. -/
  | bcont (l : Nat)
  /-- `BR <label>`. -/
  | br (l : Nat)
  /-- `name:`. -/
  | label (l : Nat)
deriving DecidableEq, Repr

/-- A host program. -/
abbrev HostProgram := List HostStmt

/-! ## Mnemonics and pseudo-instructions -/

/-- A command mnemonic with its fields: it writes CMD (R92). -/
def asmCmd (i : Instr) : HostProgram := [.wr .cmd (encode i)]

/-- `DO c` (R93). -/
def asmDo (i : Instr) : HostProgram := asmCmd i ++ [.wait]

/-- `{hi, lo}` of two coordinates, each as its 16-bit field (R14, R93). -/
def pairWord (hi lo : Int) : Word := BitVec.ofInt 16 hi ++ BitVec.ofInt 16 lo

/-- `PIX x, y, c` (R93). -/
def asmPix (x y : Int) (c : Color) : HostProgram := .wr .argXY (pairWord y x) :: asmDo (.setPixel c)

/-- `PIXP x, y, c` (R93). -/
def asmPixp (x y : Int) (c : Color) : HostProgram := .wr .argXY (pairWord y x) :: asmDo (.setPixelPhys c)

/-- `PWIN x, y, w, h` (R93). -/
def asmPwin (R : Rect) : HostProgram :=
  .wr .argXY (pairWord R.y R.x) :: .wr .argWH (pairWord R.h R.w) :: asmDo .setPartialWindow

/-- The operand writes of `IMG` and `DIMG` (R93). -/
def asmImageArgs (R : Rect) (s0 s1 : Word) : HostProgram :=
  [.wr .argXY (pairWord R.y R.x), .wr .argWH (pairWord R.h R.w), .wr .argSrc0 s0, .wr .argSrc1 s1]

/-- `IMG x, y, w, h, s0, s1, flags` (R93). -/
def asmImg (R : Rect) (s0 s1 : Word) (f : ImageFlags) : HostProgram := asmImageArgs R s0 s1 ++ asmDo (.writeImage f)

/-- `DIMG x, y, w, h, s0, s1, flags` (R93). -/
def asmDimg (R : Rect) (s0 s1 : Word) (f : ImageFlags) : HostProgram := asmImageArgs R s0 s1 ++ asmDo (.drawImage f)

/-- `PAGELOOP body` with the label l: the host's page loop (R93, R158). -/
def asmPageLoop (l : Nat) (body : HostProgram) : HostProgram :=
  asmDo .beginFrame ++ .label l :: body ++ asmDo .advancePage ++ [.rd .status, .bcont l]

/-! ## Running a program -/

/-- A host at work on a machine: the program, the index of the next statement, the last STATUS it read, the machine. -/
structure HostRun where
  program : HostProgram
  next : Nat
  lastStatus : Word
  machine : State
deriving DecidableEq, Repr

/-- The index of a label; the end of the program if it has no such label. -/
def HostProgram.find (p : HostProgram) (l : Nat) : Nat := p.findIdx fun st => st == .label l

/-- One input of the machine. -/
def State.feed (s : State) (i : Input) : Result := step { s with inputs := i :: s.inputs }

/-- Go on with what the machine answered. -/
def hostAfter (r : Result) (k : State → HostRun) : Host.Outcome HostRun Fault Refusal :=
  match r with
  | .next s => .next (k s)
  | .fault f => .fault f
  | .refused f => .refused f

/-- The host executes its next statement: one register access or one jump (R91). `WAIT` reads STATUS and stays while BUSY is 1.
A program ends after its last statement. -/
def HostRun.hostMove (h : HostRun) : Host.Outcome HostRun Fault Refusal :=
  match h.program[h.next]? with
  | none => .next h
  | some (.wr r v) =>
    hostAfter (h.machine.feed (.hostWrite 4 r.offset v)) fun s => { h with next := h.next + 1, machine := s }
  | some (.rd r) =>
    hostAfter (h.machine.feed (.hostRead 4 r.offset)) fun s =>
      { h with
        next := h.next + 1
        lastStatus := if r = .status then s.readData else h.lastStatus
        machine := s }
  | some .wait =>
    hostAfter (h.machine.feed (.hostRead 4 Reg.status.offset)) fun s =>
      { h with
        next := if s.readData.getLsbD 0 then h.next else h.next + 1
        lastStatus := s.readData
        machine := s }
  | some (.bcont l) => .next { h with next := if h.lastStatus.getLsbD 1 then h.program.find l else h.next + 1 }
  | some (.br l) => .next { h with next := h.program.find l }
  | some (.label _) => .next { h with next := h.next + 1 }

/-- The engine takes its turn between two statements of the host (R51). -/
def HostRun.engineMove (h : HostRun) : Host.Outcome HostRun Fault Refusal :=
  hostAfter (h.machine.feed .engineTurn) fun s => { h with machine := s }

end Sys2Proof.Machine
end

