-- ==== Sys2Proof/Tests/Slice0.lean ====
section
/-!
SUPPORT. Tests. Expected words, events and values are those of 95_test_vectors.md and of the rules' own examples, or worked out
by hand from the encoding tables; each docstring names its source. The last part shows that the hypotheses of each statement
can be met.
-/

namespace Sys2Proof.Tests

open Sys2Proof.Machine

/-! ## The spec's test profiles (95_test_vectors.md section 1) -/

/-- P1. -/
abbrev P1 : Profile := Config.profile

/-- P2. -/
abbrev P2 : Profile :=
  { P1 with
    height := 2, planes := 2, cap := 2, twoPass := true, stream := .continuous, winEnc := .entry, wakeNeedsReset := false }

/-- P3. -/
abbrev P3 : Profile := { P1 with width := 8, height := 2, bpr := 1, cap := 2, enc := .grey4 }

/-- P4. -/
abbrev P4 : Profile := { P1 with width := 8, height := 1, bpr := 1, cap := 1, planes := 2, enc := .nibble }

/-- P5. -/
abbrev P5 : Profile := { P1 with width := 400, height := 300, bpr := 50, cap := 5000 }

/-- P6. -/
abbrev P6 : Profile := { P1 with cap := 8, partialOk := false, winEnc := .none, stream := .continuous }

/-- The state after INIT, with READY after 1000 us as the answer of the next four busy waits. -/
abbrev inited (p : Profile) : State := { State.resetFor p with inited := true, polls := List.replicate 4 ⟨false, 1000⟩ }

/-- A command word is latched and the engine has its turn. -/
abbrev running (p : Profile) (v : Word) : State :=
  { inited p with busy := true, op := ⟨v, 0#32, 0#32, 0#32, 0#32⟩ }

/-- Latched operands. -/
abbrev args (s : State) (xy wh s0 s1 : Word) : State := { s with op := ⟨0#32, xy, wh, s0, s1⟩ }

/-- The source bytes of 95_test_vectors.md section 3.7. -/
abbrev bitmap : Memory := [(0x100, 0x0F), (0x101, 0xF0), (0x102, 0x3C), (0x103, 0xC3), (0x104, 0x11), (0x105, 0x22)]

/-- Something seen of a next state. -/
def seen {α : Type} (r : Result) (f : State → α) : Option α :=
  match r with
  | .next t => some (f t)
  | .fault _ => none
  | .refused _ => none

/-- The init of a full pass on P1, P2 (W3, PR3). -/
abbrev fullInit : List WireEvent :=
  [.reset 10 10, .cmd 0x01, .data [0xAA], .cmd 0x32, .data [0x11, 0x22], .cmd 0x04, .busy .ready 1000]

/-- The init of a partial pass on P1 (V45-3). -/
abbrev partialInit : List WireEvent :=
  [.reset 10 10, .cmd 0x01, .data [0xBB], .cmd 0x32, .data [0x33], .cmd 0x04, .busy .ready 1000]

/-! ## Well-formedness smoke: each check refuses an ill-formed term -/

theorem test_wf_refuses_reserved_colour :
    (Instr.fill .reserved).wf = false ∧ (Instr.setPixel .reserved).wf = false ∧
      (Instr.setPixelPhys .reserved).wf = false ∧ (Instr.fill .accent).wf = true := by decide

theorem test_profiles_admitted :
    P1.wf = true ∧ P2.wf = true ∧ P3.wf = true ∧ P4.wf = true ∧ P5.wf = true ∧ P6.wf = true := by decide

/-- R12 (a). -/
theorem test_wf_refuses_sizes :
    ({ P1 with width := 12 } : Profile).wfSize = false ∧ ({ P1 with width := 0 } : Profile).wfSize = false ∧
      ({ P1 with width := 32768 } : Profile).wfSize = false ∧ ({ P1 with height := 0 } : Profile).wfSize = false ∧
      ({ P1 with height := 32768 } : Profile).wfSize = false := by decide

/-- R12 (b), (c), (d). -/
theorem test_wf_refuses_bpr_cap_planes :
    ({ P1 with bpr := 3 } : Profile).wfBpr = false ∧ ({ P1 with cap := 3 } : Profile).wfCap = false ∧
      ({ P1 with cap := 0 } : Profile).wfCap = false ∧ ({ P1 with planes := 3 } : Profile).wfPlanes = false := by decide

/-- R12 (e), (f), (g), (h). -/
theorem test_wf_refuses_encodings :
    ({ P3 with planes := 2 } : Profile).wfEncoding = false ∧ ({ P4 with planes := 1 } : Profile).wfEncoding = false ∧
      ({ P1 with twoPass := true } : Profile).wfTwoPass = false ∧ ({ P2 with stream := .perPage } : Profile).wfTwoPass = false ∧
      ({ P2 with twoPass := false } : Profile).wfStream = false := by decide

/-- R12 (i), (k), (l), and R11. -/
theorem test_wf_refuses_windows_and_items :
    ({ P6 with partialOk := true } : Profile).wfWinEnc = false ∧ ({ P6 with stream := .perPage } : Profile).wfWinEnc = false ∧
      ({ P2 with width := 2056 } : Profile).wfWinEnc = false ∧ ({ P1 with seqPowerOn := [.lut .full] } : Profile).wfLut = false ∧
      ({ P1 with seqRefreshPartial := [.lut .partialMode] } : Profile).wfLut = false ∧
      ({ P1 with seqInitFull := [.data []] } : Profile).wfItems = false := by decide

/-! ## Decoding: words written out from the encodings (R82 to R87, V30-1 to V30-4, V30-6 to V30-8) -/

theorem test_decode_init : (decode 0x00000001#32).toOption = some .init := by decide
theorem test_decode_init_ignores_upper_bits : (decode 0x12345601#32).toOption = some .init := by decide
theorem test_decode_set_rotation :
    (decode 0x00000502#32).toOption = some (.setRotation .r1 true) ∧
      (decode 0x00000302#32).toOption = some (.setRotation .r3 false) := by decide
theorem test_decode_set_full_window : (decode 0x00000003#32).toOption = some .setFullWindow := by decide
theorem test_decode_set_partial_window : (decode 0x00000004#32).toOption = some .setPartialWindow := by decide
theorem test_decode_fill :
    (decode 0x00000110#32).toOption = some (.fill .black) ∧
      (decode 0xFFFFFF10#32).toOption = some (.fill .reserved) := by decide
theorem test_decode_set_pixel : (decode 0x00000211#32).toOption = some (.setPixel .accent) := by decide
theorem test_decode_set_pixel_phys : (decode 0x00000112#32).toOption = some (.setPixelPhys .black) := by decide
theorem test_decode_begin_frame : (decode 0x00000020#32).toOption = some .beginFrame := by decide
theorem test_decode_advance_page : (decode 0x00000021#32).toOption = some .advancePage := by decide
theorem test_decode_power_off : (decode 0x00000030#32).toOption = some .powerOff := by decide
theorem test_decode_clear_panel : (decode 0x0FFF0040#32).toOption = some (.clearPanel 0xFF 0x0F) := by decide
theorem test_decode_write_image :
    (decode 0x00000241#32).toOption = some (.writeImage ⟨false, true, false, false⟩) ∧
      (decode 0x00000D41#32).toOption = some (.writeImage ⟨true, false, true, true⟩) := by decide
theorem test_decode_draw_image :
    (decode 0x00000942#32).toOption = some (.drawImage ⟨true, false, false, true⟩) := by decide
theorem test_decode_reserved_op :
    (decode 0x00000000#32).toOption = none ∧ (decode 0x00000005#32).toOption = none ∧
      (decode 0x00000043#32).toOption = none ∧ (decode 0x000000FF#32).toOption = none := by decide
theorem test_decode_table_word :
    decodeTableWord 32 0x40 = some (.clearPanel 0 0) ∧ decodeTableWord 8 0x21 = some .advancePage := by decide

/-- A placed word is the command the next step runs (R82): INIT after reset leaves STATUS = 0x40 (V45-1). -/
theorem test_placed_word_runs :
    seen (step (State.reset.withFetchWord 32 0x00000001)) (fun t => (t.busRead 4 0x14, t.wire)) = some (0x00000040#32, []) := by
  decide

/-! ## One command at a time (95_test_vectors.md section 3) -/

/-- V45-1. -/
theorem test_init :
    seen (exec .init (State.resetFor P1)) (fun t => (t.status, t.pageReg)) = some (0x00000040#32, 0x0002FFFF#32) := by decide

/-- V40-10. -/
theorem test_set_rotation :
    seen (exec (.setRotation .r2 true) (inited P1)) (fun t => t.geomReg) = some 0x00060002#32 := by decide

/-- R230, R36, R37 on P1: WIN_XY = 0, WIN_WH = H, W. -/
theorem test_set_full_window :
    seen (exec .setFullWindow { inited P1 with winMode := .partialMode, win := ⟨8, 2, 8, 2⟩ })
      (fun t => (t.winXYReg, t.winWHReg, t.win)) = some (0x00000000#32, 0x00040010#32, ⟨8, 2, 8, 2⟩) := by decide

/-- V44-1. -/
theorem test_set_partial_window :
    seen (exec .setPartialWindow (args (inited P1) 0x00010003#32 0x00020006#32 0#32 0#32)) (fun t => t.win) =
      some ⟨0, 1, 16, 2⟩ := by decide

/-- V44-6. -/
theorem test_set_partial_window_rotated :
    seen (exec .setPartialWindow { args (inited P1) 0x00000000#32 0x00030002#32 0#32 0#32 with rot := .r1 }) (fun t => t.win) =
      some ⟨8, 0, 8, 2⟩ := by decide

/-- V41-1. -/
theorem test_fill_black :
    seen (exec (.fill .black) (inited P1)) (fun t => (List.range 4).map (t.fbRead .black)) = some [0xFF, 0xFF, 0xFF, 0xFF] := by
  decide

/-- V41-2. -/
theorem test_fill_accent :
    seen (exec (.fill .accent) (inited P2)) (fun t => (t.fbRead .black 1, t.fbRead .accent 1)) = some (0x00#8, 0xFF#8) := by decide

/-- V41-12. -/
theorem test_set_pixel :
    seen (exec (.setPixel .black) { inited { P1 with cap := 8 } with rot := .r1 }) (fun t => t.fbBlack) = some [(1, 0x01#8)] := by
  decide

/-- V40-4 as a pixel: with mirroring, logical (0, 0) at rotation 1 is physical (15, 3). -/
theorem test_set_pixel_mirrored :
    seen (exec (.setPixel .black) { inited { P1 with cap := 8 } with rot := .r1, mirror := true }) (fun t => t.fbBlack) =
      some [(7, 0x01#8)] := by decide

/-- V41-7. -/
theorem test_set_pixel_phys :
    seen (exec (.setPixelPhys .black) { args (inited P1) 0x00030009#32 0#32 0#32 0#32 with cursor := some 1 })
      (fun t => t.fbBlack) = some [(3, 0x40#8)] := by decide

/-- V41-9. -/
theorem test_set_pixel_phys_accent :
    seen (exec (.setPixelPhys .accent) { inited P2 with fbBlack := [(0, 0x80#8)] }) (fun t => (t.fbBlack, t.fbAccent)) =
      some ([], [(0, 0x80#8)]) := by decide

/-- W3, first row, on P1. -/
theorem test_begin_frame :
    seen (exec .beginFrame (inited P1)) (fun t => (t.wire, t.status)) = some (fullInit, 0x00000056#32) := by decide

/-- PR3 step 1, with the window of V43-2. -/
theorem test_begin_frame_continuous :
    seen (exec .beginFrame (inited P2)) (fun t => t.wire) =
      some (fullInit ++ [.cmd 0x11, .data [0x03], .cmd 0x44, .data [0x00, 0x01], .cmd 0x45, .data [0x00, 0x00, 0x01, 0x00],
        .cmd 0x4E, .data [0x00], .cmd 0x4F, .data [0x00, 0x00], .cmd 0x24]) := by decide

/-- PR1 step 6. -/
theorem test_advance_page_ends :
    seen (exec .advancePage { inited P1 with cursor := some 1, cont := true, pwr := true, needReset := false, fbBlack := [(3, 0x40)] })
      (fun t => (t.wire, t.status, t.needReset)) =
      some ([.cmd 0x90, .data [0x00, 0x00, 0x00, 0x0F, 0x00, 0x02, 0x00, 0x03, 0x01], .cmd 0x24, .data [0x00, 0x00, 0x00, 0x40],
        .cmd 0x12, .busy .ready 1000, .cmd 0x02, .busy .ready 1000], 0x00000040#32, true) := by decide

/-- PR3 step 3: the phase switch. -/
theorem test_advance_page_switches :
    seen (exec .advancePage { inited P2 with cursor := some 1, cont := true, pwr := true, needReset := false, fbAccent := [(0, 0x80)] })
      (fun t => (t.wire, t.cursor, t.phase, t.fbAccent)) =
      some ([.data [0x00, 0x00], .cmd 0x26], some 0, .second, []) := by decide

/-- V43-12. -/
theorem test_power_off :
    seen (exec .powerOff { inited P1 with pwr := true, needReset := false }) (fun t => (t.wire, t.pwr, t.needReset)) =
      some ([.cmd 0x02, .busy .ready 1000], false, true) := by decide

/-- V45-2. -/
theorem test_clear_panel :
    seen (exec (.clearPanel 0xFF 0x00) (inited P1)) (fun t => (t.wire, t.pwr)) =
      some (fullInit ++ [.cmd 0x90, .data [0x00, 0x00, 0x00, 0x0F, 0x00, 0x00, 0x00, 0x03, 0x01], .cmd 0x24,
        .data (List.replicate 8 0xFF), .cmd 0x12, .busy .ready 1000, .cmd 0x02, .busy .ready 1000], false) := by decide

/-- V45-3. -/
theorem test_write_image :
    seen (exec (.writeImage ⟨false, false, false, false⟩)
        { args (inited P1) 0xFFFF0003#32 0x0003000A#32 0x100#32 0#32 with srcData := bitmap }) (fun t => (t.wire, t.pwr)) =
      some (partialInit ++ [.cmd 0x90, .data [0x00, 0x00, 0x00, 0x0F, 0x00, 0x00, 0x00, 0x01, 0x01], .cmd 0x24,
        .data [0x3C, 0xC3, 0x11, 0x22]], true) := by decide

/-- V45-7: the left edge is cut off. -/
theorem test_write_image_left_edge :
    seen (exec (.writeImage ⟨false, false, false, false⟩)
        { args (inited P1) 0x0000FFF8#32 0x00010010#32 0x100#32 0#32 with srcData := bitmap }) (fun t => t.wire.drop 8) =
      some [.data [0x00, 0x00, 0x00, 0x07, 0x00, 0x00, 0x00, 0x00, 0x01], .cmd 0x24, .data [0xF0]] := by decide

/-- V45-4. -/
theorem test_draw_image :
    seen (exec (.drawImage ⟨true, false, false, false⟩)
        { args (inited P1) 0x00000000#32 0x00020010#32 0x100#32 0#32 with srcData := bitmap }) (fun t => (t.wire, t.pwr)) =
      some (partialInit ++ [.cmd 0x90, .data [0x00, 0x00, 0x00, 0x0F, 0x00, 0x00, 0x00, 0x01, 0x01], .cmd 0x24,
        .data [0xF0, 0x0F, 0xC3, 0x3C], .cmd 0x13, .busy .ready 1000], true) := by decide

/-- V45-5: bitmap row 1 first. -/
theorem test_draw_image_mirror_y :
    seen (exec (.drawImage ⟨false, true, false, false⟩)
        { args (inited P1) 0x00000000#32 0x00020010#32 0x100#32 0#32 with srcData := bitmap }) (fun t => t.wire[10]?) =
      some (some (.data [0x3C, 0xC3, 0x0F, 0xF0])) := by decide

/-! ## Shared operations -/

/-- V43-5, V43-6, V43-8. -/
theorem test_encoders :
    encGrey P3 ⟨0, 0, 8, 1⟩ (fun _ _ _ => 0xA5) = [0xCC, 0x33] ∧
      (List.range 4).map (nibbleByte P4 0x80 0x40) = [0x04, 0x33, 0x33, 0x33] ∧
      (List.range 4).map (nibbleByte P4 0x00 0x0F) = [0x33, 0x33, 0x44, 0x44] := by decide

/-- V43-10: TIMEOUT at the ceiling. -/
theorem test_busy_wait_times_out :
    ({ inited P1 with polls := [⟨true, 14999999⟩, ⟨true, 15000000⟩] }).busyWait.wire = [.busy .timeout 15000000] ∧
      ({ inited P1 with polls := [⟨true, 14999999⟩, ⟨true, 15000000⟩] }).busyWait.lastBusyUs = 0x00E4E1C0#32 ∧
      ({ inited P1 with polls := [⟨true, 14999999⟩, ⟨true, 15000000⟩] }).busyWait.diag = 0x01#6 := by decide

/-- V30-11, V30-12. -/
theorem test_view_registers :
    (State.resetFor P1).busRead 4 0x1C = 0x0002FFFF#32 ∧ (State.resetFor P1).busRead 4 0x20 = 0x00000002#32 ∧
      (State.resetFor P1).busRead 4 0x28 = 0x00040010#32 ∧ (State.resetFor P1).busRead 4 0x30 = 0x00040010#32 ∧
      (State.resetFor P1).busRead 4 0x38 = 0x00000004#32 ∧ (State.resetFor P2).busRead 4 0x34 = 0x00000179#32 := by decide

/-- V60-1, V60-2, V60-4, V60-5, V45-9: the order of the refusal checks. -/
theorem test_refusal_order :
    seen (step { State.resetFor P1 with busy := true }) (fun t => t.diag) = some 0x04#6 ∧
      seen (exec (.fill .reserved) (State.resetFor P1)) (fun t => t.diag) = some 0x10#6 ∧
      seen (exec .setPartialWindow { inited P6 with cursor := some 0 }) (fun t => t.diag) = some 0x20#6 ∧
      seen (exec .setPartialWindow (inited P6)) (fun t => t.diag) = some 0x02#6 ∧
      seen (exec (.writeImage ⟨false, false, false, false⟩) (args (inited P6) 0#32 0x00040008#32 0#32 0#32))
        (fun t => (t.diag, t.wire)) = some (0x02#6, []) := by decide

/-- The words of PWIN 8, 2, 8, 2 (PR2), of x = -5, y = 3 (V30-5) and of PR1. -/
theorem test_host_words :
    asmPwin ⟨8, 2, 8, 2⟩ = [.wr .argXY 0x00020008#32, .wr .argWH 0x00020008#32, .wr .cmd 0x00000004#32, .wait] ∧
      pairWord 3 (-5) = 0x0003FFFB#32 ∧
      asmPageLoop 0 (asmPixp 9 3 .black) =
        [.wr .cmd 0x00000020#32, .wait, .label 0, .wr .argXY 0x00030009#32, .wr .cmd 0x00000112#32, .wait, .wr .cmd 0x00000021#32,
          .wait, .rd .status, .bcont 0] := by decide

/-- Where a host stands after one move. -/
def hostAt (r : Host.Outcome HostRun Fault Refusal) : Option Nat :=
  match r with
  | .next h => some h.next
  | .fault _ => none
  | .refused _ => none

/-- R91: BCONT goes back to the label while CONT is 1 and goes on when it is 0; WAIT stays while BUSY is 1. -/
theorem test_host_control :
    hostAt (HostRun.mk (asmPageLoop 0 []) 6 0x00000002#32 (inited P1)).hostMove = some 2 ∧
      hostAt (HostRun.mk (asmPageLoop 0 []) 6 0x00000000#32 (inited P1)).hostMove = some 7 ∧
      hostAt (HostRun.mk [.wait] 0 0x00000000#32 (running P1 0x20#32)).hostMove = some 0 ∧
      hostAt (HostRun.mk [.wait] 0 0x00000000#32 (inited P1)).hostMove = some 1 := by decide

/-! ## Hypotheses that can be met, statement by statement (boundary values where a clause has a range) -/

/-- A word with upper bits set, and one that shares its named bits. -/
theorem witness_OnlyNamedBitsMatter :
    decode 0x12345601#32 = .ok .init ∧ 0x00000001#32 &&& namedBits .init = 0x12345601#32 &&& namedBits .init := ⟨rfl, by decide⟩

theorem witness_StepRunsTheDecodedCommand :
    (running P1 0x00000020#32).busy = true ∧ decode (running P1 0x00000020#32).op.cmd = .ok .beginFrame ∧
      (running P1 0x00000020#32).inputs = [] ∧
      ({ running P1 0x00000020#32 with inputs := [.engineTurn] } : State).inputs = .engineTurn :: [] := ⟨rfl, rfl, rfl, rfl⟩

theorem witness_IdleEngineWaits :
    (inited P1).busy = false ∧ (inited P1).inputs = [] ∧
      ({ inited P1 with inputs := [.engineTurn] } : State).inputs = .engineTurn :: [] := by decide

theorem witness_CmdWriteIssuesOrOverruns :
    ({ inited P1 with inputs := [.hostWrite 4 0x00 0x01#32] } : State).inputs = .hostWrite 4 0x00 0x01#32 :: [] ∧
      ({ inited P1 with inputs := [.hostWrite 4 0x00 0x01#32] } : State).busy = false ∧
      ({ running P1 0x20#32 with inputs := [.hostWrite 4 0x00 0x01#32] } : State).busy = true := by decide

/-- Every check of R285 refuses some command, and each neighbour of it passes. -/
theorem witness_RefusalChecksInOrder :
    refusalByRule (running P1 0x00000005#32) = some 0x04#6 ∧
      refusalByRule { running P1 0x00000310#32 with inited := false } = some 0x10#6 ∧
      refusalByRule (running P1 0x00000310#32) = some 0x04#6 ∧
      refusalByRule { running P6 0x00000004#32 with cursor := some 0 } = some 0x20#6 ∧
      refusalByRule { running P1 0x00000003#32 with cursor := some 0 } = some 0x20#6 ∧
      refusalByRule (running P6 0x00000004#32) = some 0x02#6 ∧
      refusalByRule { running P6 0x00000041#32 with op := ⟨0x41#32, 0#32, 0x00040008#32, 0#32, 0#32⟩ } = some 0x02#6 ∧
      refusalByRule { running P6 0x00000042#32 with op := ⟨0x42#32, 0#32, 0x00040010#32, 0#32, 0#32⟩ } = none ∧
      refusalByRule { running P1 0x00000001#32 with inited := false } = none ∧
      (running P1 0x00000005#32).busy = true ∧ (running P1 0x00000005#32).inputs = [] := by decide

theorem witness_NoinitUntilInit : (State.resetFor P1).inited = false ∧ Instr.beginFrame ≠ .init := by decide

theorem witness_ReservedColourOnlySetsBadcmd :
    (inited P1).inited = true ∧ Instr.fill .reserved = .fill .reserved ∧ Instr.setPixel .reserved = .setPixel .reserved ∧
      Instr.setPixelPhys .reserved = .setPixelPhys .reserved := by decide

theorem witness_OperandsComeFromTheLatch :
    ({ inited P1 with inputs := [.hostWrite 4 0x00 0x11#32] } : State).busy = false ∧
      ({ inited P1 with inputs := [.hostWrite 4 0x00 0x11#32] } : State).inputs = .hostWrite 4 0x00 0x11#32 :: [] := by decide

theorem witness_HostWritesStoreArgsAndClearDiag :
    ∀ off ∈ [0x04, 0x08, 0x0C, 0x10, 0x18],
      ({ running P1 0x20#32 with diag := 0x0D#6, inputs := [.hostWrite 4 off 0x05#32] } : State).inputs =
        .hostWrite 4 off 0x05#32 :: [] := by decide

/-- A narrow access, one that is not aligned, the reserved offset 0x3C, and a read. -/
theorem witness_InertAccessesAndReads :
    (2 ≠ 4 ∨ 0x04 % 4 ≠ 0 ∨ 0x3C ≤ 0x04) ∧ (4 ≠ 4 ∨ 0x02 % 4 ≠ 0 ∨ 0x3C ≤ 0x02) ∧ (4 ≠ 4 ∨ 0x3C % 4 ≠ 0 ∨ 0x3C ≤ 0x3C) ∧
      ({ inited P1 with inputs := [.hostWrite 4 0x3C 0x01#32] } : State).inputs = .hostWrite 4 0x3C 0x01#32 :: [] ∧
      ({ inited P1 with inputs := [.hostRead 4 0x14] } : State).inputs = .hostRead 4 0x14 :: [] := by decide

theorem witness_StatusShowsItsFields :
    ({ inited P1 with inputs := [.hostWrite 4 0x14 0xFF#32] } : State).inputs = .hostWrite 4 0x14 0xFF#32 :: [] := by decide

theorem witness_ViewRegistersShowTheState :
    ({ inited P1 with cursor := some 1 } : State).cursor = some 1 ∧ (inited P1).cursor = none ∧ (inited P1).winMode = .full ∧
      ({ inited P1 with winMode := .partialMode, win := ⟨16, 4, 0, 0⟩ } : State).winMode = .partialMode ∧
      ({ inited P1 with inputs := [.hostWrite 4 0x38 0x01#32] } : State).inputs = .hostWrite 4 0x38 0x01#32 :: [] := by decide

/-- A reset in the middle of a BEGIN_FRAME, and one while idle. -/
theorem witness_HardResetCutsTheCommand :
    ({ running P1 0x20#32 with inputs := [.hardReset 3] } : State).inputs = .hardReset 3 :: [] ∧
      ({ running P1 0x20#32 with inputs := [.hardReset 3] } : State).busy = true ∧
      (∃ u, step { running P1 0x20#32 with inputs := [.engineTurn] } = .next u) ∧
      ({ inited P1 with inputs := [.hardReset 0] } : State).busy = false := ⟨rfl, rfl, ⟨_, rfl⟩, rfl⟩

/-- P2 is admitted; P2 with one column of bytes too many for ENTRY is not. -/
theorem witness_OnlyAdmittedProfilesBuild : admitted P2 ∧ ¬ admitted { P2 with width := 2056, bpr := 257, cap := 257 } := by
  constructor
  · refine ⟨by decide, by decide, by decide, by decide, by decide, by decide, by decide, by decide, by decide, by decide,
      fun m => by cases m <;> decide, by decide, by decide⟩
  · rintro ⟨_, _, _, _, _, _, _, _, _, _, _, h, _⟩
    exact absurd (h rfl) (by decide)

theorem witness_ResetBufferIsUnobservable : (State.resetFor P1).inited = false ∧ Instr.fill .black ≠ .init := by decide

theorem witness_SetRotationResult : (inited P1).inited = true ∧ (State.resetFor P1).inited = false := by decide

theorem witness_SetFullWindowResult :
    (inited P1).inited = true ∧ (inited P1).cursor = none ∧ ({ inited P1 with cursor := some 0 } : State).cursor ≠ none := by
  decide

theorem witness_WindowCommandsAreLockedInAPass :
    ({ inited P1 with cursor := some 0 } : State).inited = true ∧ ({ inited P1 with cursor := some 0 } : State).cursor ≠ none := by
  decide

theorem witness_SetPartialWindowResult :
    (inited P6).inited = true ∧ (inited P6).cursor = none ∧ (inited P6).profile.partialOk = false ∧
      ({ inited P6 with cursor := some 0 } : State).cursor ≠ none ∧ (inited P1).inited = true ∧ (inited P1).cursor = none ∧ (inited P1).profile.partialOk = true := by decide

/-- A request with a width, and one at the right edge without. -/
theorem witness_AppliedWindowLiesInThePanel :
    P1.wf = true ∧ (clipRect P1 (transformRect P1 .r0 false ⟨15, 0, 1, 1⟩)).w ≠ 0 ∧
      (clipRect P1 (transformRect P1 .r0 false ⟨16, 0, 1, 1⟩)).w = 0 := by decide

theorem witness_ClippingKeepsValidWindows : P1.wf = true ∧ (⟨8, 0, 8, 4⟩ : Rect).inPanel P1 :=
  ⟨by decide, by constructor <;> decide⟩

theorem witness_RectTransformIsThePointImage : 0 ≤ (⟨0, 0, 16, 0⟩ : Rect).w ∧ 0 ≤ (⟨0, 0, 16, 0⟩ : Rect).h := by decide

theorem witness_RotationsComposeAsStated :
    (Rotation.r3, Rotation.r1) ∈ [(Rotation.r0, Rotation.r2), (.r1, .r3), (.r2, .r0), (.r3, .r1)] ∧
      ({ P1 with height := 16 } : Profile).width = ({ P1 with height := 16 } : Profile).height := by decide

theorem witness_FillResult :
    (inited P1).inited = true ∧ Color.accent ≠ .reserved ∧ (inited P2).profile.planes = 2 ∧ (inited P1).profile.planes ≠ 2 ∧
      (inited P1).profile.accentOnMono = .black ∧
      (inited { P1 with accentOnMono := .white }).profile.accentOnMono = .white ∧
      (inited { P1 with accentOnMono := .ignore }).profile.accentOnMono = .ignore := by decide

/-- The last pixel of the resident page, and one just outside it. -/
theorem witness_SetPixelPhysResult :
    (inited P1).inited = true ∧ Color.black ≠ .reserved ∧ (inited P1).fbBlack.wf ∧ (inited P1).fbAccent.wf ∧
      pixelSite { inited P1 with cursor := some 1 } 15 3 = some (3, 0) ∧
      pixelSite { inited P1 with cursor := some 1 } 15 1 = none ∧ pixelSite (inited P1) 16 0 = none := by decide

/-- The corners of the logical rectangle at rotation 1, and the points just outside it. -/
theorem witness_SetPixelResult :
    (inited P1).inited = true ∧ Color.black ≠ .reserved ∧ (inited P1).fbBlack.wf ∧ (inited P1).fbAccent.wf ∧
      (let s := args { inited P1 with rot := .r1 } 0x000F0003#32 0#32 0#32 0#32
       (operandRect s).x = widthByRule P1 .r1 - 1 ∧ (operandRect s).y = heightByRule P1 .r1 - 1) ∧
      (let s := args { inited P1 with rot := .r1 } 0x00000004#32 0#32 0#32 0#32
       widthByRule P1 .r1 ≤ (operandRect s).x) ∧
      (let s := args (inited P1) 0x8000FFFF#32 0#32 0#32 0#32
       (operandRect s).x < 0 ∧ (operandRect s).y < 0) := by decide

theorem witness_PagesPartitionThePanel :
    P1.wf = true ∧ 1 < P1.pageCount ∧ 0 + 1 < P1.pageCount ∧ P1.pageStart 1 ≤ 3 ∧ 3 < P1.pageStart 1 + P1.pageRows 1 := by decide

/-- W2: a panel whose last page is short. -/
theorem test_page_counts :
    P5.pageCount = 3 ∧ P5.pageRows 2 = 100 ∧
      ({ P1 with width := 8, bpr := 1, height := 5, cap := 2 } : Profile).pageCount = 3 ∧
      ({ P1 with width := 8, bpr := 1, height := 5, cap := 2 } : Profile).pageRows 2 = 1 := by decide

/-- A window on both pages, the last page, and the last position of it. -/
theorem witness_PageRectsTileThePassWindow :
    (inited P1).profile.wf = true ∧ ({ inited P1 with passWin := ⟨8, 1, 8, 2⟩ } : State).passWin.inPanel P1 ∧
      1 < (inited P1).profile.pageCount ∧
      (1, 2) ∈ (({ inited P1 with passWin := ⟨8, 1, 8, 2⟩ } : State).pageRect 1).cells :=
  ⟨by decide, by constructor <;> decide, by decide, by decide⟩

theorem witness_BeginFrameResult : (inited P2).inited = true ∧ (inited P2).profile.stream = .continuous := by decide

theorem witness_AdvanceWithoutAPass : (inited P1).inited = true ∧ (inited P1).cursor = none := by decide

/-- The last page but one. -/
theorem witness_AdvanceToTheNextPage :
    ({ inited P1 with cursor := some 0 } : State).inited = true ∧ ({ inited P1 with cursor := some 0 } : State).cursor = some 0 ∧
      0 + 1 < (inited P1).profile.pageCount := by decide

/-- The last page of phase 0. -/
theorem witness_AdvanceSwitchesThePhase :
    (inited P2).inited = true ∧ ({ inited P2 with cursor := some 1 } : State).cursor = some 1 ∧
      (inited P2).profile.pageCount ≤ 1 + 1 ∧ (inited P2).profile.twoPass = true ∧ (inited P2).phase = .first := by decide

/-- The last page of a full pass with the panel on, of one with it off, and of a partial pass; and of phase 1. -/
theorem witness_AdvanceEndsThePass :
    (inited P1).inited = true ∧ ({ inited P1 with cursor := some 1 } : State).cursor = some 1 ∧
      (inited P1).profile.pageCount ≤ 1 + 1 ∧ ¬ ((inited P1).profile.twoPass = true ∧ (inited P1).phase = .first) ∧
      ({ inited P1 with cursor := some 1, passPartial := true } : State).passPartial = true ∧
      ({ inited P1 with cursor := some 1, pwr := true } : State).passPartial = false ∧
      ({ inited P1 with cursor := some 1, pwr := true } : State).pwr = true ∧
      ({ inited P1 with cursor := some 1 } : State).pwr = false ∧
      ¬ ((inited P2).profile.twoPass = true ∧ ({ inited P2 with cursor := some 1, phase := .second } : State).phase = .first) := by
  decide

/-- The start of a pass, on a profile without TWO_PASS and on one with it. -/
theorem witness_PassCompletesAfterItsPages :
    ∀ p ∈ [P1, P2], p.wf = true ∧ ({ inited p with cursor := some 0, cont := true } : State).inited = true ∧
      ({ inited p with cursor := some 0, cont := true } : State).cursor = some 0 ∧
      ({ inited p with cursor := some 0, cont := true } : State).phase = .first ∧
      ({ inited p with cursor := some 0, cont := true } : State).cont = true ∧ 1 < p.pageCount ∧ p.twoPass = (p == P2) := by
  decide

/-- One sample below the ceiling, then a ready one, or one at the ceiling. -/
theorem witness_BusyWaitPollsUntilReadyOrCeiling :
    ({ inited P1 with polls := [⟨true, 14999999⟩, ⟨false, 15000000⟩] } : State).polls = [⟨true, 14999999⟩] ++ ⟨false, 15000000⟩ :: [] ∧
      (∀ b ∈ [(⟨true, 14999999⟩ : Poll)], b.level = P1.busyLevel ∧ b.elapsed < P1.busyTimeoutUs) ∧
      (⟨false, 15000000⟩ : Poll).level ≠ P1.busyLevel ∧
      ({ inited P1 with polls := [⟨true, 14999999⟩, ⟨true, 15000000⟩] } : State).polls = [⟨true, 14999999⟩] ++ ⟨true, 15000000⟩ :: [] ∧
      (⟨true, 15000000⟩ : Poll).level = P1.busyLevel ∧ P1.busyTimeoutUs ≤ (⟨true, 15000000⟩ : Poll).elapsed := by decide

/-- The last column of bytes and the last row, on an ABS and on an ENTRY profile; and a profile without window commands. -/
theorem witness_WindowBytesCarryTheCoordinates :
    (P1.wf = true ∧ (⟨8, 3, 8, 1⟩ : Rect).inPanel P1 ∧ (⟨8, 3, 8, 1⟩ : Rect).w ≠ 0 ∧ (⟨8, 3, 8, 1⟩ : Rect).h ≠ 0 ∧ P1.winEnc = .abs) ∧
      (P2.wf = true ∧ (⟨8, 1, 8, 1⟩ : Rect).inPanel P2 ∧ (⟨8, 1, 8, 1⟩ : Rect).w ≠ 0 ∧ (⟨8, 1, 8, 1⟩ : Rect).h ≠ 0 ∧ P2.winEnc = .entry) ∧
      (P6.wf = true ∧ (⟨0, 0, 16, 4⟩ : Rect).inPanel P6 ∧ (⟨0, 0, 16, 4⟩ : Rect).w ≠ 0 ∧ (⟨0, 0, 16, 4⟩ : Rect).h ≠ 0 ∧ P6.winEnc = .none) :=
  ⟨⟨by decide, by constructor <;> decide, by decide, by decide, by decide⟩,
    ⟨by decide, by constructor <;> decide, by decide, by decide, by decide⟩,
    ⟨by decide, by constructor <;> decide, by decide, by decide, by decide⟩⟩

/-- The last byte of the last row. -/
theorem witness_EncodersFollowTheirRules :
    1 < (⟨0, 1, 16, 2⟩ : Rect).h.toNat ∧ 1 < ((⟨0, 1, 16, 2⟩ : Rect).w / 8).toNat := by decide

theorem witness_PinsAfterAnEvent :
    (inited P1).pins.cs = true ∧ (inited P1).pins.rst = true ∧ WireEvent.cmd 0x24 = .cmd 0x24 ∧
      WireEvent.data [0x00] = .data [0x00] ∧ (∀ b, WireEvent.delay 1 ≠ .cmd b) ∧ (∀ bs, WireEvent.delay 1 ≠ .data bs) ∧ 7 < 8 :=
  ⟨by decide, by decide, rfl, rfl, nofun, nofun, by decide⟩

/-- V45-4, at draw number d. -/
abbrev invertedImage (d : Nat) : State :=
  { args (inited P1) 0x00000000#32 0x00020010#32 0x100#32 0#32 with srcData := bitmap, draws := d }

/-- Every byte that the command of V45-4 reads is provisioned. -/
theorem witness_TimeoutsDoNotChangeTheCommit :
    ∀ f, Instr.drawImage ⟨true, false, false, false⟩ = .writeImage f ∨
        Instr.drawImage ⟨true, false, false, false⟩ = .drawImage f → ∀ c Y,
      (c, Y) ∈ (imgWindow P1 (operandRect (invertedImage 0))).cells → ∀ q d d',
      (invertedImage d).imgByte f q c Y = (invertedImage d').imgByte f q c Y := by
  intro f hf c Y hc q d d'
  have cells : (imgWindow P1 (operandRect (invertedImage 0))).cells = [(0, 0), (1, 0), (0, 1), (1, 1)] := by decide
  rw [cells] at hc
  simp only [reduceCtorEq, Instr.drawImage.injEq, false_or, List.mem_cons, Prod.mk.injEq, List.not_mem_nil, or_false] at hf hc
  subst hf
  have byte : ∀ c Y b d, bitmap.lookup ((invertedImage 0).imgAddr ⟨true, false, false, false⟩ .black c Y).toNat = some b →
      (invertedImage d).imgByte ⟨true, false, false, false⟩ .black c Y = ~~~b := by
    intro c Y b d h
    have hread := State.srcRead_of_lookup (s := invertedImage d) (sp := .data) .black List.not_mem_nil h
    exact congrArg (~~~ ·) hread
  cases q
  · rcases hc with ⟨rfl, rfl⟩ | ⟨rfl, rfl⟩ | ⟨rfl, rfl⟩ | ⟨rfl, rfl⟩
    · rw [byte 0 0 0x0F d (by decide), byte 0 0 0x0F d' (by decide)]
    · rw [byte 1 0 0xF0 d (by decide), byte 1 0 0xF0 d' (by decide)]
    · rw [byte 0 1 0x3C d (by decide), byte 0 1 0x3C d' (by decide)]
    · rw [byte 1 1 0xC3 d (by decide), byte 1 1 0xC3 d' (by decide)]
  · rfl

theorem witness_PowerOffResult :
    (inited P1).inited = true ∧ (inited P1).pwr = false ∧ ({ inited P1 with pwr := true } : State).pwr = true := by decide

theorem witness_ClearPanelResult : (inited P2).inited = true := by decide

/-- On P6 one rectangle is the whole panel and one is not; P1 takes any. -/
theorem witness_WriteImageResult :
    (inited P6).inited = true ∧ P6.partialOk = false ∧
      operandRect (args (inited P6) 0#32 0x00040008#32 0#32 0#32) ≠ ⟨0, 0, P6.width, P6.height⟩ ∧
      operandRect (args (inited P6) 0#32 0x00040010#32 0#32 0#32) = ⟨0, 0, P6.width, P6.height⟩ ∧
      (inited P1).inited = true ∧ P1.partialOk = true := by decide

theorem witness_DrawImageResult :
    (inited P6).inited = true ∧ P6.partialOk = false ∧
      operandRect (args (inited P6) 0#32 0x00040008#32 0#32 0#32) ≠ ⟨0, 0, P6.width, P6.height⟩ ∧
      operandRect (args (inited P6) 0#32 0x00040010#32 0#32 0#32) = ⟨0, 0, P6.width, P6.height⟩ ∧
      (inited P1).inited = true ∧ P1.partialOk = true := by decide

/-- A rectangle cut at the left edge, one outside the panel, and the pixels in the corners. -/
theorem witness_ImageClipCutsToThePanel :
    P1.wf = true ∧ (imgWindow P1 ⟨-8, 0, 16, 1⟩).w ≠ 0 ∧ (imgWindow P1 ⟨-8, 0, 16, 1⟩).h ≠ 0 ∧ (imgWindow P1 ⟨16, 0, 8, 1⟩).w = 0 ∧
      (0 : Int) ≤ 15 ∧ (15 : Int) < P1.width ∧ (0 : Int) ≤ 3 ∧ (3 : Int) < P1.height := by decide

/-- The last byte of the last row of V45-3's bitmap. -/
theorem witness_ImageBytesComeFromTheBitmap :
    P1.wf = true ∧ (1, 1) ∈ (imgWindow P1 (operandRect (args (inited P1) 0xFFFF0003#32 0x0003000A#32 0x100#32 0#32))).cells := by decide

/-- A store while idle and one while a command executes. -/
theorem witness_StoredSourceBytesAreRead :
    ({ inited P1 with inputs := [.hostStore .data 0x100#32 0x0F#8] } : State).inputs = .hostStore .data 0x100#32 0x0F#8 :: [] ∧
      ({ inited P1 with inputs := [.hostStore .data 0x100#32 0x0F#8] } : State).busy = false ∧
      (Space.data, (0x100#32).toNat) ∉ (inited P1).raced ∧
      (Space.prog, 0x100#32) ≠ (Space.data, 0x100#32) ∧
      ({ running P1 0x41#32 with inputs := [.hostStore .data 0x100#32 0x0F#8] } : State).busy = true := by decide

/-- A step that completes: BEGIN_FRAME at the engine's turn. -/
theorem witness_StepsKeepTheProfileAndTheTrace : ∃ t, step (running P1 0x00000020#32) = .next t := ⟨_, rfl⟩

/-- The last page of phase 0 of a two-plane pass, with pixels of both colours in the buffer. -/
abbrev midPass : State :=
  { running P2 0x00000021#32 with
    cursor := some 1, cont := true, pwr := true, needReset := false, fbBlack := [(0, 0x80)], fbAccent := [(0, 0x01), (1, 0x40)] }

/-- The invariant admits a state in the middle of a pass, and a step is possible there. -/
theorem witness_EveryStepKeepsTheInvariant : midPass.Inv ∧ ∃ t, step midPass = .next t := by
  refine ⟨⟨by decide, ⟨?_, by decide, by decide⟩, ⟨?_, ?_, by decide, by decide, by decide⟩, by unfold State.powerOk; decide,
    by unfold State.pinsIdle; decide, ⟨by decide, by decide, by decide, by decide, by decide⟩, ?_⟩, ⟨_, rfl⟩⟩
  · intro n h
    cases h
    decide
  · constructor <;> decide
  · constructor <;> decide
  · intro i
    match i with
    | 0 => decide
    | 1 => decide
    | n + 2 =>
      simp [State.fbRead, State.plane, Memory.readByte, Memory.lookup, blankByte]

theorem witness_ResetMeetsTheInvariant : P5.wf = true := by decide

/-- Each command that has a clause of its own, and one that has none. -/
theorem witness_ContIsThePageProtocolsAnswer :
    (inited P1).inited = true ∧ (∃ t, exec .beginFrame (inited P1) = .next t) ∧ (∃ t, exec .advancePage (inited P1) = .next t) ∧
      (∃ t, exec .init (inited P1) = .next t) ∧ (∃ t, exec .powerOff (inited P1) = .next t) := by
  exact ⟨by decide, ⟨_, rfl⟩, ⟨_, rfl⟩, ⟨_, rfl⟩, ⟨_, rfl⟩⟩

theorem witness_OnlySetRotationWritesTheGeometry :
    (∃ t, exec (.fill .black) (inited P1) = .next t) ∧ ∀ r m, Instr.fill .black ≠ .setRotation r m := ⟨⟨_, rfl⟩, nofun⟩

theorem witness_OnlyBufferCommandsTouchTheBuffer :
    (∀ c, Instr.powerOff ≠ .fill c) ∧ (∀ c, Instr.powerOff ≠ .setPixel c) ∧ (∀ c, Instr.powerOff ≠ .setPixelPhys c) ∧
      Instr.powerOff ≠ .init ∧ Instr.powerOff ≠ .beginFrame ∧ Instr.powerOff ≠ .advancePage :=
  ⟨nofun, nofun, nofun, nofun, nofun, nofun⟩

/-- A window command in a pass, and one outside. -/
theorem witness_PassWindowIsFrozen :
    (∃ t, exec .setPartialWindow { inited P1 with cursor := some 0 } = .next t) ∧ Instr.setPartialWindow ≠ .init ∧
      Instr.setPartialWindow ≠ .beginFrame ∧ ({ inited P1 with cursor := some 0 } : State).cursor ≠ none :=
  ⟨⟨_, rfl⟩, nofun, nofun, nofun⟩

theorem witness_BulkCommandsLeaveThePassAlone :
    Instr.powerOff = .powerOff ∧ (∃ b a, Instr.clearPanel 0xFF 0x00 = .clearPanel b a) ∧
      (∃ f, Instr.writeImage ⟨true, false, true, true⟩ = .writeImage f) ∧
      (∃ f, Instr.drawImage ⟨true, false, false, true⟩ = .drawImage f) :=
  ⟨rfl, ⟨_, _, rfl⟩, ⟨_, rfl⟩, ⟨_, rfl⟩⟩

end Sys2Proof.Tests
end

section
/-!
PROOFS. The statements of 00_scope.md: which profiles build an engine (R12), and that every step keeps the profile and the events
already sent (R3, R73, R310).
-/

namespace Sys2Proof

/-! ## Admitted profiles: what each check of `Profile.wf` says -/

theorem Profile.wfSize_iff (p : Profile) :
    p.wfSize = true ↔ p.width % 8 = 0 ∧ 8 ≤ p.width ∧ p.width ≤ 32760 ∧ 1 ≤ p.height ∧ p.height ≤ 32767 := by
  simp [Profile.wfSize, and_assoc]

theorem Profile.wfBpr_iff (p : Profile) : p.wfBpr = true ↔ p.bpr = p.width / 8 := by simp [Profile.wfBpr]

theorem Profile.wfCap_iff (p : Profile) : p.wfCap = true ↔ p.cap % p.bpr = 0 ∧ p.bpr ≤ p.cap := by simp [Profile.wfCap]

theorem Profile.wfPlanes_iff (p : Profile) : p.wfPlanes = true ↔ p.planes = 1 ∨ p.planes = 2 := by simp [Profile.wfPlanes]

theorem Profile.wfEncoding_iff (p : Profile) :
    p.wfEncoding = true ↔ (p.enc = .grey4 → p.planes = 1) ∧ (p.enc = .nibble → p.planes = 2) := by
  unfold Profile.wfEncoding
  cases p.enc <;> simp

theorem Profile.wfTwoPass_iff (p : Profile) :
    p.wfTwoPass = true ↔ (p.twoPass = true → p.planes = 2 ∧ p.enc = .plain ∧ p.stream = .continuous) := by
  cases h : p.twoPass <;> simp [Profile.wfTwoPass, h, and_assoc]

theorem Profile.wfStream_iff (p : Profile) :
    p.wfStream = true ↔ (p.planes = 2 ∧ p.enc = .plain ∧ p.twoPass = false → p.stream = .perPage) := by
  rw [Profile.wfStream, Bool.or_eq_true, Bool.not_eq_true', ← Bool.not_eq_true, ← imp_iff_not_or]
  simp [and_assoc]

theorem Profile.wfWinEnc_iff (p : Profile) :
    p.wfWinEnc = true ↔
      (p.winEnc = .none → p.partialOk = false ∧ p.stream = .continuous) ∧ (p.winEnc = .entry → p.width ≤ 2048) := by
  unfold Profile.wfWinEnc
  cases p.winEnc <;> simp

theorem SeqItem.isLut_iff (i : SeqItem) : i.isLut = true ↔ ∃ m, i = .lut m := by cases i <;> simp [SeqItem.isLut]

theorem SeqItem.nonEmpty_iff (i : SeqItem) : i.nonEmpty = true ↔ i ≠ .data [] := by cases i <;> simp [SeqItem.nonEmpty]

/-- A sequence passes the check of R12 (k) when no mode's LUT item is in it. -/
theorem SeqItem.any_isLut_eq_false (seq : List SeqItem) : seq.any SeqItem.isLut = false ↔ ∀ m, .lut m ∉ seq := by
  simp only [List.any_eq_false, SeqItem.isLut_iff, not_exists]
  exact ⟨fun h m hm => h _ hm m rfl, fun h i hi m he => h m (he ▸ hi)⟩

/-- A sequence passes the check of R11 when the empty DATA item is not in it. -/
theorem SeqItem.all_nonEmpty (seq : List SeqItem) : seq.all SeqItem.nonEmpty = true ↔ .data [] ∉ seq := by
  simp only [List.all_eq_true, SeqItem.nonEmpty_iff]
  exact ⟨fun h hm => h _ hm rfl, fun h i hi he => h (he ▸ hi)⟩

theorem Profile.wfLut_iff (p : Profile) :
    p.wfLut = true ↔ ∀ m, .lut m ∉ p.seqPowerOn ∧ .lut m ∉ p.seqPowerOff ∧ .lut m ∉ p.seqRefreshFull ∧
      .lut m ∉ p.seqRefreshPartial := by
  rw [Profile.wfLut, Bool.not_eq_true', SeqItem.any_isLut_eq_false]
  simp only [List.mem_append, not_or, and_assoc]

theorem Profile.wfItems_iff (p : Profile) :
    p.wfItems = true ↔ .data [] ∉ p.seqInitFull ∧ .data [] ∉ p.seqInitPartial ∧ .data [] ∉ p.seqPowerOn ∧
      .data [] ∉ p.seqPowerOff ∧ .data [] ∉ p.seqRefreshFull ∧ .data [] ∉ p.seqRefreshPartial := by
  rw [Profile.wfItems, SeqItem.all_nonEmpty]
  simp only [List.mem_append, not_or, and_assoc]

end Sys2Proof

namespace Sys2Proof.Machine

/-- `Profile.wf` checks just what R12 lists. Constraint (j) holds by the type of the nibble codes. -/
theorem wf_iff_admitted (p : Profile) : p.wf = true ↔ admitted p := by
  have nibbleCodes : p.nibBlack.toNat < 16 ∧ p.nibAccent.toNat < 16 ∧ p.nibWhite.toNat < 16 :=
    ⟨p.nibBlack.isLt, p.nibAccent.isLt, p.nibWhite.isLt⟩
  simp only [Profile.wf, Bool.and_eq_true, Profile.wfSize_iff, Profile.wfBpr_iff, Profile.wfCap_iff, Profile.wfPlanes_iff,
    Profile.wfEncoding_iff, Profile.wfTwoPass_iff, Profile.wfStream_iff, Profile.wfWinEnc_iff, Profile.wfLut_iff,
    Profile.wfItems_iff]
  constructor
  · rintro ⟨⟨⟨⟨⟨⟨⟨⟨⟨size, bpr⟩, cap⟩, planes⟩, grey4, nibble⟩, twoPass⟩, stream⟩, noWindow, entry⟩, lut⟩, items⟩
    exact ⟨size, bpr, cap, planes, grey4, nibble, twoPass, stream, noWindow, nibbleCodes, lut, entry, items⟩
  · rintro ⟨size, bpr, cap, planes, grey4, nibble, twoPass, stream, noWindow, -, lut, entry, items⟩
    exact ⟨⟨⟨⟨⟨⟨⟨⟨⟨size, bpr⟩, cap⟩, planes⟩, grey4, nibble⟩, twoPass⟩, stream⟩, noWindow, entry⟩, lut⟩, items⟩

/-- Settles O17: `State.build` decides by `Profile.wf`, whose checks are the constraints of R12. -/
theorem onlyAdmittedProfilesBuild : Obligations.OnlyAdmittedProfilesBuild := by
  intro p
  rw [← wf_iff_admitted]
  exact ⟨fun h => if_pos h, fun h => if_neg h⟩

/-! ## What a command does when it is not refused -/

/-- The effect of each command (R87), apart from its refusal checks. -/
def commandEffect : Instr → State → State
  | .init, s => s.initialise
  | .setRotation r m, s => { s with rot := r, mirror := m }
  | .setFullWindow, s => { s with winMode := .full }
  | .setPartialWindow, s =>
    { s with win := applyWindow s.profile s.rot s.mirror s.opRect, winMode := .partialMode }
  | .fill c, s => s.fillWith c
  | .setPixel c, s => s.plotLogical s.opX s.opY c
  | .setPixelPhys c, s => s.plotPhys s.opX s.opY c
  | .beginFrame, s => s.beginPass
  | .advancePage, s => s.advance
  | .powerOff, s => s.powerOffIfOn
  | .clearPanel b a, s => s.clearPanel b a
  | .writeImage f, s => s.putImage f
  | .drawImage f, s => s.showImage f

/-- Every command goes through the refusal checks of R285 to its effect. -/
theorem exec_eq_perform (i : Instr) (s : State) : exec i s = s.perform i (commandEffect i) := by cases i <;> rfl

/-! ## The profile and the trace: the relation that every operation keeps -/

/-- From `s` to `t` the profile stays (R3) and the wire trace only grows at its end (R73). -/
structure HistoryKept (s t : State) : Prop where
  profile : t.profile = s.profile
  wire : s.wire <+: t.wire

namespace HistoryKept

/-- An operation that sends nothing. -/
theorem of_eq {s t : State} (hp : t.profile = s.profile) (hw : t.wire = s.wire) : HistoryKept s t :=
  ⟨hp, hw ▸ List.prefix_rfl⟩

theorem refl (s : State) : HistoryKept s s := of_eq rfl rfl

theorem trans {s t u : State} (h : HistoryKept s t) (k : HistoryKept t u) : HistoryKept s u :=
  ⟨k.profile.trans h.profile, h.wire.trans k.wire⟩

/-- A panel-side operation sends its expected events and touches no configuration. -/
theorem of_panelStep {s t : State} {exp : List Expected} (h : PanelStep s t exp) : HistoryKept s t := by
  obtain ⟨evs, hc⟩ := h.observed
  exact ⟨h.only.profile, evs, hc.wire.symm⟩

/-! ### Shared operations -/

theorem fbFill (s : State) (q : Plane) (v : Byte) : HistoryKept s (s.fbFill q v) :=
  of_eq (State.withPlane_profile _ _ _) (State.withPlane_wire _ _ _)

theorem powerOnIfOff (s : State) : HistoryKept s s.powerOnIfOff := by
  unfold State.powerOnIfOff
  split
  · exact (of_panelStep (runSeq_panelStep _ s)).trans (of_eq rfl rfl)
  · exact refl s

theorem powerOffIfOn (s : State) : HistoryKept s s.powerOffIfOn := by
  unfold State.powerOffIfOn
  split
  · exact (of_panelStep (runSeq_panelStep _ s)).trans (of_eq rfl rfl)
  · exact refl s

theorem initPanel (s : State) (m : Mode) : HistoryKept s (s.initPanel m) :=
  ((of_panelStep (resetIfNeeded_panelStep s)).trans (of_panelStep (runSeq_panelStep _ _))).trans (powerOnIfOff _)

theorem refresh (s : State) (m : Mode) : HistoryKept s (s.refresh m) := of_panelStep (refresh_panelStep s m)

theorem emitCmd (s : State) (b : Byte) : HistoryKept s (s.emitCmd b) := of_panelStep (emitCmd_panelStep s b)

theorem emitPlanes (s : State) (R : Rect) (src : ByteSource) : HistoryKept s (s.emitPlanes R src) :=
  of_panelStep (emitPlanes_panelStep s R src)

/-! ### Pixels (R122 to R129) -/

theorem ink (s : State) (c : Color) (i k : Nat) : HistoryKept s (s.ink c i k) := by
  rw [State.ink_frame]
  exact of_eq rfl rfl

theorem plotPhys (s : State) (X Y : Int) (c : Color) : HistoryKept s (s.plotPhys X Y c) := by
  unfold State.plotPhys
  split
  · exact refl s
  · split
    · exact refl s
    · exact ink s c _ _

theorem plotLogical (s : State) (x y : Int) (c : Color) : HistoryKept s (s.plotLogical x y c) := by
  unfold State.plotLogical
  split
  · exact refl s
  · exact plotPhys s _ _ c

theorem fillWith (s : State) (c : Color) : HistoryKept s (s.fillWith c) := by
  have twoFills (v w : Byte) : HistoryKept s ((s.fbFill .black v).fbFill .accent w) := (fbFill s _ v).trans (fbFill _ _ w)
  cases c with
  | white => exact twoFills _ _
  | black =>
    simp only [State.fillWith]
    split
    · exact twoFills _ _
    · exact fbFill s _ _
  | accent =>
    simp only [State.fillWith]
    split
    · exact twoFills _ _
    · cases s.profile.accentOnMono with
      | black => exact fbFill s _ _
      | white => exact fbFill s _ _
      | ignore => exact refl s
  | reserved => exact refl s

/-! ### Passes (R145 to R157) -/

theorem latchPass (s : State) : HistoryKept s s.latchPass := by
  unfold State.latchPass
  split <;> exact of_eq rfl rfl

theorem startStream (s : State) : HistoryKept s s.startStream := by
  unfold State.startStream
  split
  · exact refl s
  · split
    · exact emitCmd s _
    · exact (of_panelStep (setWindow_panelStep s _)).trans (emitCmd _ _)

theorem beginPass (s : State) : HistoryKept s s.beginPass :=
  (((latchPass s).trans (initPanel _ _)).trans (startStream _)).trans (of_eq rfl rfl)

theorem phaseSwitch (s : State) : HistoryKept s s.phaseSwitch := ⟨rfl, List.prefix_append _ _⟩

theorem endPass (s : State) : HistoryKept s s.endPass := by
  have refreshed : HistoryKept s (if s.passPartial = true then s.refresh .partialMode else (s.refresh .full).powerOffIfOn) := by
    split
    · exact refresh s _
    · exact (refresh s _).trans (powerOffIfOn _)
  exact refreshed.trans (of_eq rfl rfl)

theorem leavePage (s : State) (n : Nat) : HistoryKept s (s.leavePage n) := by
  unfold State.leavePage
  split
  · exact of_eq rfl rfl
  · split
    · exact (phaseSwitch s).trans (of_eq rfl rfl)
    · exact (endPass s).trans (of_eq rfl rfl)

theorem advance (s : State) : HistoryKept s s.advance := by
  unfold State.advance
  split
  · exact of_eq rfl rfl
  · exact (of_panelStep (streamPage_panelStep s _)).trans (leavePage _ _)

/-! ### Bulk commands (R254 to R266) -/

theorem clearPanel (s : State) (b a : Byte) : HistoryKept s (s.clearPanel b a) :=
  (((initPanel s _).trans (emitPlanes _ _ _)).trans (refresh _ _)).trans (powerOffIfOn _)

theorem putImage (s : State) (f : ImageFlags) : HistoryKept s (s.putImage f) := by
  unfold State.putImage
  split
  · exact initPanel s _
  · exact ((initPanel s _).trans (emitPlanes _ _ _)).trans (of_eq rfl rfl)

theorem showImage (s : State) (f : ImageFlags) : HistoryKept s (s.showImage f) := by
  unfold State.showImage
  split
  · exact (putImage s f).trans (refresh _ _)
  · exact ((putImage s f).trans (refresh _ _)).trans (powerOffIfOn _)

/-! ### Commands -/

theorem commandEffect (i : Instr) (s : State) : HistoryKept s (commandEffect i s) := by
  cases i with
  | init => exact of_eq rfl rfl
  | setRotation r m => exact of_eq rfl rfl
  | setFullWindow => exact of_eq rfl rfl
  | setPartialWindow => exact of_eq rfl rfl
  | fill c => exact fillWith s c
  | setPixel c => exact plotLogical s _ _ c
  | setPixelPhys c => exact plotPhys s _ _ c
  | beginFrame => exact beginPass s
  | advancePage => exact advance s
  | powerOff => exact powerOffIfOn s
  | clearPanel b a => exact clearPanel s b a
  | writeImage f => exact putImage s f
  | drawImage f => exact showImage s f

theorem exec {s t : State} {i : Instr} (h : Machine.exec i s = .next t) : HistoryKept s t := by
  rw [exec_eq_perform] at h
  unfold State.perform at h
  split at h
  · cases h
    exact of_eq rfl rfl
  · cases h
    exact commandEffect i s

theorem runLatched {s t : State} (h : s.runLatched = .next t) : HistoryKept s t := by
  unfold State.runLatched at h
  split at h
  · exact exec h
  · cases h
    exact of_eq rfl rfl

/-! ### Moves of the machine (R20) -/

theorem engineMove {s t : State} (h : s.engineMove = .next t) : HistoryKept s t := by
  unfold State.engineMove at h
  split at h
  · cases hr : s.runLatched with
    | next u =>
      rw [hr] at h
      cases h
      exact (runLatched hr).trans (of_eq rfl rfl)
    | fault r => exact nomatch r
    | refused r =>
      rw [hr] at h
      cases h
  · cases h
    exact refl s

/-- The events of a cut command that were sent stay sent (R310). -/
theorem hardReset (s : State) (n : Nat) : HistoryKept s (s.hardReset n) := ⟨rfl, List.prefix_append _ _⟩

theorem writeReg (s : State) (r : Reg) (v : Word) : HistoryKept s (s.writeReg r v) := by
  cases r with
  | cmd =>
    simp only [State.writeReg, State.writeCmd]
    split <;> exact of_eq rfl rfl
  | _ => exact of_eq rfl rfl

theorem busWrite (s : State) (width off : Nat) (v : Word) : HistoryKept s (s.busWrite width off v) := by
  unfold State.busWrite
  split
  · split
    · exact writeReg s _ v
    · exact refl s
  · exact refl s

theorem storeSource (s : State) (sp : Space) (addr : Word) (b : Byte) : HistoryKept s (s.storeSource sp addr b) :=
  of_eq (State.withSource_profile _ _ _) (State.withSource_wire _ _ _)

theorem accept {s t : State} {i : Input} (h : s.accept i = .next t) : HistoryKept s t := by
  cases i with
  | hostWrite width off v => cases h; exact busWrite s width off v
  | hostRead width off => cases h; exact of_eq rfl rfl
  | hostStore sp addr b => cases h; exact storeSource s sp addr b
  | engineTurn => exact engineMove h
  | hardReset n => cases h; exact hardReset s n

theorem step {s t : State} (h : Machine.step s = .next t) : HistoryKept s t := by
  unfold Machine.step State.move at h
  split at h
  · exact engineMove h
  next i rest _ =>
    have inputTaken : HistoryKept s { s with inputs := rest } := of_eq rfl rfl
    exact inputTaken.trans (accept h)

end HistoryKept

/-- Settles O52: no operation writes the profile or takes an event back, so no step does. -/
theorem stepsKeepTheProfileAndTheTrace : Obligations.StepsKeepTheProfileAndTheTrace := by
  intro s t h
  obtain ⟨profile, evs, wire⟩ := HistoryKept.step h
  exact ⟨profile, evs, wire.symm⟩

end Sys2Proof.Machine
end

section
/-!
PROOFS. What a command reads and writes: which changes of the state pass an operation by, and which fields an operation may
write. Statements on what a command leaves alone, or does not look at, follow from these.
-/

namespace Sys2Proof.Machine

/-! ## Operations that a change of the state passes by -/

/-- `F` neither reads nor writes what `g` changes: after the change it does the same, and the change stays. -/
def Ignores (F g : State → State) : Prop := ∀ s : State, F (g s) = g (F s)

namespace Ignores

variable {F G g : State → State}

theorem skip : Ignores (fun s => s) g := fun _ => rfl

theorem comp (hG : Ignores G g) (hF : Ignores F g) : Ignores (fun s => G (F s)) g :=
  fun s => (congrArg G (hF s)).trans (hG (F s))

theorem branch {c : State → Prop} [DecidablePred c] (hc : ∀ s, c (g s) ↔ c s) (hF : Ignores F g) (hG : Ignores G g) :
    Ignores (fun s => if c s then F s else G s) g := fun s => by
  simp only [hc, hF s, hG s, apply_ite g]

/-- An operation may choose what it does by a value that the change leaves alone. -/
theorem reading {α : Type} {r : State → α} {H : α → State → State} (hr : ∀ s, r (g s) = r s)
    (hH : ∀ a, Ignores (H a) g) : Ignores (fun s => H (r s) s) g := fun s => by
  simp only [hr]
  exact hH (r s) s

theorem foldl {α : Type} {f : State → α → State} (hf : ∀ a, Ignores (fun s => f s a) g) (l : List α) :
    Ignores (fun s => l.foldl f s) g := by
  induction l with
  | nil => exact skip
  | cons a l ih => exact comp ih (hf a)

end Ignores

/-! ## Panel-side operations read and write the panel side only -/

/-- `s` with the panel side of `t`: the profile, the power state and what `Observed` speaks of. -/
def State.withPanel (s t : State) : State :=
  { s.withPanelSide t with profile := t.profile, pwr := t.pwr, needReset := t.needReset }

/-! That `F` acts on the panel side only is said as `Ignores F u.withPanel` for every `u`: what `F` does to the panel side of
`t` does not depend on the state around it, and that stays. -/

namespace OnPanel

open Ignores

variable {u : State}

/-- An operation may choose what it does by the profile. -/
theorem byProfile {H : Profile → State → State} (hH : ∀ p, Ignores (H p) u.withPanel) :
    Ignores (fun s => H s.profile s) u.withPanel := fun s => hH s.profile s

theorem emit (e : WireEvent) : Ignores (fun s => s.emit e) u.withPanel := fun _ => rfl

theorem emitCmd (b : Byte) : Ignores (fun s => s.emitCmd b) u.withPanel := emit _

theorem emitData (bs : List Byte) : Ignores (fun s => s.emitData bs) u.withPanel := branch (fun _ => Iff.rfl) skip (emit _)

theorem emitPair (b : Byte) (bs : List Byte) : Ignores (fun s => (s.emitCmd b).emitData bs) u.withPanel :=
  comp (emitData bs) (emitCmd b)

theorem resetPulse : Ignores State.resetPulse u.withPanel := fun _ => rfl

theorem busyWait : Ignores State.busyWait u.withPanel := fun t => by
  have answer : (u.withPanel t).busyAnswer = t.busyAnswer := rfl
  unfold State.busyWait
  rw [answer]
  obtain ⟨outcome, elapsed, rest, draws⟩ := t.busyAnswer
  cases outcome <;> rfl

theorem lutUpload (m : Mode) : Ignores (fun s => s.lutUpload m) u.withPanel :=
  byProfile fun p => foldl (f := State.lutSegment) (fun g => emitPair g.cmd g.bytes) (p.lutOf m)

theorem runItem (i : SeqItem) : Ignores (fun s => s.runItem i) u.withPanel := by
  cases i with
  | cmd b => exact emitCmd b
  | data bs => exact emitData bs
  | waitBusy => exact busyWait
  | delay ms => exact emit _
  | resetPulse => exact resetPulse
  | lut m => exact lutUpload m

theorem runSeq (seq : List SeqItem) : Ignores (fun s => s.runSeq seq) u.withPanel := foldl runItem seq

theorem refresh (m : Mode) : Ignores (fun s => s.refresh m) u.withPanel := byProfile fun p => runSeq (p.seqRefresh m)

theorem powerOnIfOff : Ignores State.powerOnIfOff u.withPanel := by
  have poweredOn : Ignores (fun s => { s with pwr := true }) u.withPanel := fun _ => rfl
  exact branch (fun _ => Iff.rfl) (comp poweredOn (byProfile fun p => runSeq p.seqPowerOn)) skip

theorem powerOffIfOn : Ignores State.powerOffIfOn u.withPanel := by
  have poweredOff : Ignores State.notePowerOff u.withPanel := fun _ => rfl
  exact branch (fun _ => Iff.rfl) (comp poweredOff (byProfile fun p => runSeq p.seqPowerOff)) skip

theorem initPanel (m : Mode) : Ignores (fun s => s.initPanel m) u.withPanel := by
  have pulsed : Ignores State.resetIfNeeded u.withPanel := branch (fun _ => Iff.rfl) resetPulse skip
  have initialised : Ignores (fun s => s.resetIfNeeded.runSeq (s.profile.seqInit m)) u.withPanel :=
    byProfile fun p => comp (runSeq (p.seqInit m)) pulsed
  exact comp powerOnIfOff initialised

theorem setWindow (R : Rect) : Ignores (fun s => s.setWindow R) u.withPanel := by
  have abs : Ignores (fun s => s.setWindowAbs R) u.withPanel :=
    byProfile fun p => emitPair p.cmdWinAbs (absBytes R ++ p.absSuffix)
  have entry : Ignores (fun s => (s.entryMode.entryRanges R).entryPointers R) u.withPanel :=
    comp (byProfile fun p => comp (emitPair p.cmdYPtr _) (emitPair p.cmdXPtr _))
      (comp (byProfile fun p => comp (emitPair p.cmdYRange _) (emitPair p.cmdXRange _))
        (byProfile fun p => emitPair p.cmdEntry [p.entryVal]))
  intro t
  have encoding : (u.withPanel t).profile.winEnc = t.profile.winEnc := rfl
  simp only [State.setWindow, encoding]
  cases t.profile.winEnc with
  | abs => exact abs t
  | entry => exact entry t
  | none => rfl

theorem writeRect (q : Plane) (R : Rect) (bytes : List Byte) : Ignores (fun s => s.writeRect q R bytes) u.withPanel := by
  have written : Ignores (fun s => (s.setWindow R).emitCmd (s.profile.cmdWrite q)) u.withPanel :=
    byProfile fun p => comp (emitCmd (p.cmdWrite q)) (setWindow R)
  exact comp (emitData bytes) written

theorem emitPlanes (R : Rect) (src : ByteSource) : Ignores (fun s => s.emitPlanes R src) u.withPanel := by
  have bothPlanes : Ignores (fun s => (s.writeRect .black R (encPlain s.profile .black R src)).writeRect .accent R
      (encPlain s.profile .accent R src)) u.withPanel :=
    byProfile fun p =>
      comp (writeRect .accent R (encPlain p .accent R src)) (writeRect .black R (encPlain p .black R src))
  exact branch (fun _ => Iff.rfl) (byProfile fun p => writeRect .black R (encNibble p R src))
    (branch (fun _ => Iff.rfl) (byProfile fun p => writeRect .black R (encOne p .black R src)) bothPlanes)

/-- The windowed writes of an image command, counted as one draw. -/
theorem emitPlanesCounted (R : Rect) (src : ByteSource) :
    Ignores (fun s => { s.emitPlanes R src with draws := s.draws + 1 }) u.withPanel := fun t => by
  have written : (u.withPanel t).emitPlanes R src = u.withPanel (t.emitPlanes R src) := emitPlanes R src t
  simp only [written]
  rfl

theorem clearPanel (b a : Byte) : Ignores (fun s => s.clearPanel b a) u.withPanel := by
  have cleared : Ignores (fun s => (s.initPanel .full).emitPlanes (fullRect s.profile) (patByte b a)) u.withPanel :=
    byProfile fun p => comp (emitPlanes (fullRect p) _) (initPanel .full)
  exact comp powerOffIfOn (comp (refresh .full) cleared)

end OnPanel

/-! ## Changes that the panel side does not see -/

/-- `g` neither reads nor writes the panel side. -/
def PanelBlind (g : State → State) : Prop := ∀ s t : State, g (s.withPanel t) = (g s).withPanel t

namespace PanelBlind

variable {F g : State → State} (hg : PanelBlind g)
include hg

theorem withPanel_self (s : State) : (g s).withPanel s = g s := (hg s s).symm

theorem profile (s : State) : (g s).profile = s.profile := by
  rw [← hg.withPanel_self]
  rfl

/-- What acts on the panel side only ignores every change that the panel side does not see. -/
theorem ignored (hF : ∀ u : State, Ignores F u.withPanel) : Ignores F g := fun s =>
  calc F (g s) = F ((g s).withPanel s) := by rw [hg.withPanel_self]
    _ = (g s).withPanel (F s) := hF (g s) s
    _ = g (s.withPanel (F s)) := (hg s (F s)).symm
    _ = g (F s) := by rw [← hF s s]; rfl

/-- An image command reads the latch and the bitmap besides the panel side (R262, R264). -/
theorem putImage {f : ImageFlags} (hop : ∀ s, (g s).opRect = s.opRect) (hsrc : ∀ s, (g s).imgByte f = s.imgByte f) :
    Ignores (fun s => s.putImage f) g := fun s => by
  have mode : (g s).imgMode = s.imgMode := by simp only [State.imgMode, hg.profile]
  have init : (g s).initPanel s.imgMode = g (s.initPanel s.imgMode) := hg.ignored (fun _ => OnPanel.initPanel _) s
  simp only [State.putImage, hop, mode, hg.profile, init, hsrc, apply_ite g]
  congr 1
  exact hg.ignored (fun _ => OnPanel.emitPlanesCounted _ _) _

theorem showImage {f : ImageFlags} (hop : ∀ s, (g s).opRect = s.opRect) (hsrc : ∀ s, (g s).imgByte f = s.imgByte f) :
    Ignores (fun s => s.showImage f) g :=
  have drawn (m : Mode) : Ignores (fun s => (s.putImage f).refresh m) g :=
    .comp (hg.ignored fun _ => OnPanel.refresh m) (hg.putImage hop hsrc)
  .branch (fun s => by rw [hg.profile]) (drawn _) (.comp (hg.ignored fun _ => OnPanel.powerOffIfOn) (drawn _))

end PanelBlind

/-- The panel's part of `EndPass()`: the refresh of the pass mode, and power off after a full pass (R155). -/
def State.finalRefresh (s : State) : State :=
  if s.passPartial = true then s.refresh .partialMode else (s.refresh .full).powerOffIfOn

theorem State.endPass_eq (s : State) : s.endPass = { s.finalRefresh with cursor := none, phase := .first } := rfl

/-! ## The ARG registers -/

/-- `s` with other values in the ARG registers. -/
def State.withArgs (a b c d : Word) (s : State) : State := { s with argXY := a, argWH := b, argSrc0 := c, argSrc1 := d }

theorem withArgs_panelBlind (a b c d : Word) : PanelBlind (State.withArgs a b c d) := fun _ _ => rfl

namespace IgnoresArgs

open Ignores

variable {a b c d : Word}

theorem ink (k : Color) (i j : Nat) : Ignores (fun s => s.ink k i j) (State.withArgs a b c d) := by
  have white : Ignores (fun s => s.inkWhite i j) (State.withArgs a b c d) :=
    branch (fun _ => Iff.rfl) (fun _ => rfl) fun _ => rfl
  have black : Ignores (fun s => s.inkBlack i j) (State.withArgs a b c d) :=
    branch (fun _ => Iff.rfl) (fun _ => rfl) fun _ => rfl
  cases k with
  | white => exact white
  | black => exact black
  | accent =>
    refine branch (fun _ => Iff.rfl) (fun _ => rfl) fun s => ?_
    have mono : (s.withArgs a b c d).profile.accentOnMono = s.profile.accentOnMono := rfl
    simp only [mono]
    cases s.profile.accentOnMono with
    | black => exact black s
    | white => exact white s
    | ignore => rfl
  | reserved => exact skip

theorem plotPhys (X Y : Int) (k : Color) : Ignores (fun s => s.plotPhys X Y k) (State.withArgs a b c d) := by
  refine branch (fun _ => Iff.rfl) skip fun s => ?_
  have row : (s.withArgs a b c d).bufRow Y = s.bufRow Y := rfl
  simp only [row]
  cases s.bufRow Y with
  | none => rfl
  | some r => exact ink k _ _ s

theorem plotLogical (x y : Int) (k : Color) : Ignores (fun s => s.plotLogical x y k) (State.withArgs a b c d) :=
  branch (fun _ => Iff.rfl) skip fun s => plotPhys _ _ k s

theorem fillWith (k : Color) : Ignores (fun s => s.fillWith k) (State.withArgs a b c d) := by
  cases k with
  | white => exact fun _ => rfl
  | black => exact branch (fun _ => Iff.rfl) (fun _ => rfl) fun _ => rfl
  | accent =>
    refine branch (fun _ => Iff.rfl) (fun _ => rfl) fun s => ?_
    have mono : (s.withArgs a b c d).profile.accentOnMono = s.profile.accentOnMono := rfl
    simp only [mono]
    cases s.profile.accentOnMono <;> rfl
  | reserved => exact skip

theorem latchPass : Ignores State.latchPass (State.withArgs a b c d) := fun s => by
  have mode : (s.withArgs a b c d).winMode = s.winMode := rfl
  simp only [State.latchPass, mode]
  cases s.winMode <;> rfl

/-- What acts on the panel side only. -/
theorem panel {F : State → State} (hF : ∀ u : State, Ignores F u.withPanel) : Ignores F (State.withArgs a b c d) :=
  (withArgs_panelBlind a b c d).ignored hF

theorem startStream : Ignores State.startStream (State.withArgs a b c d) := fun s => by
  have stream : (s.withArgs a b c d).profile.stream = s.profile.stream := rfl
  simp only [State.startStream, stream]
  cases s.profile.stream with
  | perPage => rfl
  | continuous =>
    have window : Ignores (fun s => if s.passWin.isEmpty = true then s else s.setWindow s.passWin)
        (State.withArgs a b c d) :=
      branch (fun _ => Iff.rfl) skip
        (reading (r := State.passWin) (H := fun R s => s.setWindow R) (fun _ => rfl) fun R =>
          panel fun _ => OnPanel.setWindow R)
    exact congrArg (State.emitCmd · (s.profile.cmdWrite .black)) (window s)

theorem beginPass : Ignores State.beginPass (State.withArgs a b c d) := by
  have latched : Ignores (fun s => s.latchPass.initPanel s.latchPass.passMode) (State.withArgs a b c d) :=
    comp (G := fun s => s.initPanel s.passMode)
      (reading (r := State.passMode) (H := fun m s => s.initPanel m) (fun _ => rfl) fun m =>
        panel fun _ => OnPanel.initPanel m)
      latchPass
  exact comp (G := State.enterPass) (fun _ => rfl) (comp startStream latched)

theorem streamPage (n : Nat) : Ignores (fun s => s.streamPage n) (State.withArgs a b c d) := by
  refine branch (fun _ => Iff.rfl) skip fun s => ?_
  have rect : (s.withArgs a b c d).pageRect n = s.pageRect n := rfl
  have byte : (s.withArgs a b c d).pageByte n = s.pageByte n := rfl
  have phase : (s.withArgs a b c d).phase = s.phase := rfl
  have profile : (s.withArgs a b c d).profile = s.profile := rfl
  have sent (bs : List Byte) : (s.withArgs a b c d).emitData bs = (s.emitData bs).withArgs a b c d :=
    panel (fun _ => OnPanel.emitData bs) s
  simp only [State.streamContinuous, rect, byte, phase, profile, sent]
  cases s.profile.stream with
  | perPage => exact panel (fun _ => OnPanel.emitPlanes _ _) s
  | continuous => simp only [apply_ite (State.withArgs a b c d)]

theorem finalRefresh : Ignores State.finalRefresh (State.withArgs a b c d) := by
  have refreshed (m : Mode) : Ignores (fun s => s.refresh m) (State.withArgs a b c d) := panel fun _ => OnPanel.refresh m
  exact branch (fun _ => Iff.rfl) (refreshed _)
    (comp (G := State.powerOffIfOn) (panel fun _ => OnPanel.powerOffIfOn) (refreshed _))

theorem endPass : Ignores State.endPass (State.withArgs a b c d) :=
  fun s => by
    rw [State.endPass_eq, finalRefresh, State.endPass_eq]
    rfl

theorem leavePage (n : Nat) : Ignores (fun s => s.leavePage n) (State.withArgs a b c d) := by
  have done : Ignores (fun s => { s with cont := false }) (State.withArgs a b c d) := fun _ => rfl
  exact branch (fun _ => Iff.rfl) (fun _ => rfl) (branch (fun _ => Iff.rfl) (fun _ => rfl) (comp done endPass))

theorem advance : Ignores State.advance (State.withArgs a b c d) := fun s => by
  have cursor : (s.withArgs a b c d).cursor = s.cursor := rfl
  simp only [State.advance, cursor]
  cases s.cursor with
  | none => rfl
  | some n => exact comp (leavePage n) (streamPage n) s

/-- No command reads or writes the ARG registers (R49). -/
theorem commandEffect (i : Instr) : Ignores (commandEffect i) (State.withArgs a b c d) := by
  have blind := withArgs_panelBlind a b c d
  cases i with
  | init => exact fun _ => rfl
  | setRotation r m => exact fun _ => rfl
  | setFullWindow => exact fun _ => rfl
  | setPartialWindow => exact fun _ => rfl
  | fill k => exact fillWith k
  | setPixel k => exact fun s => plotLogical s.opX s.opY k s
  | setPixelPhys k => exact fun s => plotPhys s.opX s.opY k s
  | beginFrame => exact beginPass
  | advancePage => exact advance
  | powerOff => exact panel fun _ => OnPanel.powerOffIfOn
  | clearPanel b a => exact panel fun _ => OnPanel.clearPanel b a
  | writeImage f => exact blind.putImage (fun _ => rfl) fun _ => rfl
  | drawImage f => exact blind.showImage (fun _ => rfl) fun _ => rfl

end IgnoresArgs

/-! ## The frame buffer -/

/-- `s` with another content of the frame buffer. -/
def State.withBuffer (b a : Memory) (s : State) : State := { s with fbBlack := b, fbAccent := a }

theorem withBuffer_panelBlind (b a : Memory) : PanelBlind (State.withBuffer b a) := fun _ _ => rfl

/-- Commands that write or read the frame buffer (R48). -/
def usesBuffer : Instr → Prop
  | .init | .fill _ | .setPixel _ | .setPixelPhys _ | .beginFrame | .advancePage => True
  | _ => False

/-- The other commands neither write nor read the frame buffer (R48). -/
theorem commandEffect_ignores_withBuffer {i : Instr} (h : ¬ usesBuffer i) (b a : Memory) :
    Ignores (commandEffect i) (State.withBuffer b a) := by
  have blind := withBuffer_panelBlind b a
  cases i with
  | setRotation r m => exact fun _ => rfl
  | setFullWindow => exact fun _ => rfl
  | setPartialWindow => exact fun _ => rfl
  | powerOff => exact blind.ignored fun _ => OnPanel.powerOffIfOn
  | clearPanel b a => exact blind.ignored fun _ => OnPanel.clearPanel b a
  | writeImage f => exact blind.putImage (fun _ => rfl) fun _ => rfl
  | drawImage f => exact blind.showImage (fun _ => rfl) fun _ => rfl
  | _ => exact absurd trivial h

/-! ## Commands -/

/-- A refused command sets its DIAG bit; any other has its effect (R280, R285). -/
theorem exec_cases (i : Instr) (s : State) :
    (s.refusal i = none ∧ exec i s = .next (commandEffect i s)) ∨
      ∃ d, s.refusal i = some d ∧ exec i s = .next (s.raise d) := by
  rw [exec_eq_perform]
  exact s.perform_cases i _

/-- Whatever a command's effect ignores and its refusal checks do not read, the command ignores. -/
theorem exec_of_ignores {i : Instr} {g : State → State} (he : Ignores (commandEffect i) g)
    (hd : ∀ d, Ignores (fun s => s.raise d) g) {s : State} (hr : (g s).refusal i = s.refusal i) :
    ∃ t, exec i s = .next t ∧ exec i (g s) = .next (g t) := by
  rcases exec_cases i s with ⟨accepted, answer⟩ | ⟨d, refused, answer⟩
  · exact ⟨_, answer, by rw [exec_eq_perform, State.perform_of_accepted _ (hr.trans accepted), he]⟩
  · exact ⟨_, answer, by rw [exec_eq_perform, State.perform_of_refused _ (hr.trans refused), ← hd]⟩

/-- Every command ignores the ARG registers (R49). -/
theorem exec_withArgs (i : Instr) (s : State) (a b c d : Word) :
    ∃ t, exec i s = .next t ∧ exec i (s.withArgs a b c d) = .next (t.withArgs a b c d) :=
  exec_of_ignores (IgnoresArgs.commandEffect i) (fun _ _ => rfl) (State.refusal_congr i rfl rfl rfl rfl)

/-- Every command but the buffer's own ignores the frame buffer (R48). -/
theorem exec_withBuffer {i : Instr} (h : ¬ usesBuffer i) (s : State) (b a : Memory) :
    ∃ t, exec i s = .next t ∧ exec i (s.withBuffer b a) = .next (t.withBuffer b a) :=
  exec_of_ignores (commandEffect_ignores_withBuffer h b a) (fun _ _ => rfl) (State.refusal_congr i rfl rfl rfl rfl)

/-! ## What each operation may write -/

/-- From `s` to `t` only those fields change that `W` takes from its second state. -/
def Frame (W : State → State → State) (s t : State) : Prop := t = W s t

namespace Frame

variable {W V : State → State → State} {s t u : State}

/-- Framed changes compose when a second writing of the same fields covers the first. -/
theorem trans (h : Frame W s t) (k : Frame W t u) (hW : ∀ s t u, W (W s t) u = W s u := by intros; rfl) : Frame W s u := by
  have hk : u = W (W s t) u := h ▸ k
  exact hk.trans (hW s t u)

/-- A frame may be widened to one that writes at least the same fields. -/
theorem mono (h : Frame W s t) (hV : ∀ s t, V s (W s t) = W s t := by intros; rfl) : Frame V s t := by
  have ht : W s t = t := h.symm
  have hs : V s (W s t) = W s t := hV s t
  rw [ht] at hs
  exact hs.symm

/-- What a framed change leaves in a field. -/
theorem field {α : Type} (h : Frame W s t) (f : State → α) : f t = f (W s t) := congrArg f h

end Frame

/-- `s` with what a panel-side operation may write, taken from `t`. -/
def State.panelFrom (s t : State) : State := { s.withPanelSide t with pwr := t.pwr, needReset := t.needReset }

/-- `s` with the frame buffer of `t`. -/
def State.bufferFrom (s t : State) : State := { s with fbBlack := t.fbBlack, fbAccent := t.fbAccent }

/-- `s` with what ADVANCE_PAGE may write, taken from `t`. -/
def State.pagerFrom (s t : State) : State :=
  { s.withPanelSide t with
    pwr := t.pwr, needReset := t.needReset, fbBlack := t.fbBlack, fbAccent := t.fbAccent, cursor := t.cursor,
    phase := t.phase, cont := t.cont }

/-- `s` with what BEGIN_FRAME may write, taken from `t`. -/
def State.passFrom (s t : State) : State :=
  { s.withPanelSide t with
    pwr := t.pwr, needReset := t.needReset, fbBlack := t.fbBlack, fbAccent := t.fbAccent, cursor := t.cursor,
    phase := t.phase, cont := t.cont, passPartial := t.passPartial, passWin := t.passWin }

/-- `s` with what the effect of a command may write, taken from `t`. -/
def commandWrites (i : Instr) (s t : State) : State :=
  match i with
  | .init =>
    { s with
      inited := t.inited, cursor := t.cursor, phase := t.phase, passPartial := t.passPartial, passWin := t.passWin,
      winMode := t.winMode, pwr := t.pwr, needReset := t.needReset, cont := t.cont, fbBlack := t.fbBlack,
      fbAccent := t.fbAccent }
  | .setRotation _ _ => { s with rot := t.rot, mirror := t.mirror }
  | .setFullWindow => { s with winMode := t.winMode }
  | .setPartialWindow => { s with winMode := t.winMode, win := t.win }
  | .fill _ => s.bufferFrom t
  | .setPixel _ => s.bufferFrom t
  | .setPixelPhys _ => s.bufferFrom t
  | .beginFrame => s.passFrom t
  | .advancePage => s.pagerFrom t
  | .powerOff => s.panelFrom t
  | .clearPanel _ _ => s.panelFrom t
  | .writeImage _ => s.panelFrom t
  | .drawImage _ => s.panelFrom t

/-! ### Panel-side operations -/

theorem PanelStep.frame {s t : State} {exp : List Expected} (h : PanelStep s t exp) : Frame State.panelFrom s t := by
  have writes : t = { s.withPanelSide t with needReset := t.needReset } := h.only.eq
  rw [Frame, State.panelFrom, h.only.pwr]
  exact writes

/-- What acts on the panel side only and keeps the profile. -/
theorem OnPanel.frame {F : State → State} {s : State} (hF : ∀ u : State, Ignores F u.withPanel) (hp : HistoryKept s (F s)) :
    Frame State.panelFrom s (F s) := by
  have writes : F s = { s.panelFrom (F s) with profile := (F s).profile } := hF s s
  rw [hp.profile] at writes
  exact writes

theorem initPanel_frame (s : State) (m : Mode) : Frame State.panelFrom s (s.initPanel m) :=
  OnPanel.frame (fun _ => OnPanel.initPanel m) (HistoryKept.initPanel s m)

theorem powerOffIfOn_frame (s : State) : Frame State.panelFrom s s.powerOffIfOn :=
  OnPanel.frame (fun _ => OnPanel.powerOffIfOn) (HistoryKept.powerOffIfOn s)

theorem clearPanel_frame (s : State) (b a : Byte) : Frame State.panelFrom s (s.clearPanel b a) :=
  OnPanel.frame (fun _ => OnPanel.clearPanel b a) (HistoryKept.clearPanel s b a)

theorem putImage_frame (s : State) (f : ImageFlags) : Frame State.panelFrom s (s.putImage f) := by
  unfold State.putImage
  split
  · exact initPanel_frame s _
  · exact ((initPanel_frame s _).trans (emitPlanes_panelStep _ _ _).frame).trans rfl

theorem showImage_frame (s : State) (f : ImageFlags) : Frame State.panelFrom s (s.showImage f) := by
  have drawn (m : Mode) := (putImage_frame s f).trans (refresh_panelStep _ m).frame
  unfold State.showImage
  split
  · exact drawn _
  · exact (drawn _).trans (powerOffIfOn_frame _)

/-! ### Pixels -/

theorem plotPhys_frame (s : State) (X Y : Int) (c : Color) : Frame State.bufferFrom s (s.plotPhys X Y c) := by
  unfold State.plotPhys
  split
  · rfl
  · split
    · rfl
    · exact s.ink_frame c _ _

theorem plotLogical_frame (s : State) (x y : Int) (c : Color) : Frame State.bufferFrom s (s.plotLogical x y c) := by
  unfold State.plotLogical
  split
  · rfl
  · exact plotPhys_frame s _ _ c

theorem fillWith_frame (s : State) (c : Color) : Frame State.bufferFrom s (s.fillWith c) := by
  cases c with
  | white => rfl
  | black => simp only [State.fillWith]; split <;> rfl
  | accent =>
    simp only [State.fillWith]
    split
    · rfl
    · cases s.profile.accentOnMono <;> rfl
  | reserved => rfl

/-! ### Passes -/

theorem startStream_frame (s : State) : Frame State.panelFrom s s.startStream := by
  unfold State.startStream
  split
  · rfl
  · split
    · rfl
    · exact (setWindow_panelStep s _).frame.trans (emitCmd_panelStep _ _).frame

theorem latchPass_frame (s : State) : Frame State.passFrom s s.latchPass := by
  unfold State.latchPass
  split <;> rfl

theorem enterPass_frame (s : State) : Frame State.passFrom s s.enterPass := rfl

theorem beginPass_frame (s : State) : Frame State.passFrom s s.beginPass := by
  have started := (initPanel_frame s.latchPass s.latchPass.passMode).trans (startStream_frame _)
  exact ((latchPass_frame s).trans started.mono).trans (enterPass_frame _)

theorem finalRefresh_frame (s : State) : Frame State.panelFrom s s.finalRefresh := by
  unfold State.finalRefresh
  split
  · exact (refresh_panelStep s _).frame
  · exact (refresh_panelStep s _).frame.trans (powerOffIfOn_frame _)

theorem endPass_frame (s : State) : Frame State.pagerFrom s s.endPass := by
  have ended (t : State) : Frame State.pagerFrom t { t with cursor := none, phase := .first } := rfl
  rw [State.endPass_eq]
  exact (finalRefresh_frame s).mono.trans (ended _)

theorem leavePage_frame (s : State) (n : Nat) : Frame State.pagerFrom s (s.leavePage n) := by
  unfold State.leavePage
  split
  · rfl
  · split
    · rfl
    · have done (t : State) : Frame State.pagerFrom t { t with cont := false } := rfl
      exact (endPass_frame s).trans (done _)

theorem advance_frame (s : State) : Frame State.pagerFrom s s.advance := by
  unfold State.advance
  split
  · rfl
  · exact (streamPage_panelStep s _).frame.mono.trans (leavePage_frame _ _)

/-! ### Commands -/

/-- The effect of a command writes the fields of `commandWrites` and no other. -/
theorem commandEffect_frame (i : Instr) (s : State) : Frame (commandWrites i) s (commandEffect i s) := by
  cases i with
  | init => rfl
  | setRotation r m => rfl
  | setFullWindow => rfl
  | setPartialWindow => rfl
  | fill c => exact fillWith_frame s c
  | setPixel c => exact plotLogical_frame s _ _ c
  | setPixelPhys c => exact plotPhys_frame s _ _ c
  | beginFrame => exact beginPass_frame s
  | advancePage => exact advance_frame s
  | powerOff => exact powerOffIfOn_frame s
  | clearPanel b a => exact clearPanel_frame s b a
  | writeImage f => exact putImage_frame s f
  | drawImage f => exact showImage_frame s f

theorem raise_frame (i : Instr) (s : State) (d : Diag) :
    Frame (fun s t => { commandWrites i s t with diag := t.diag }) s (s.raise d) := by cases i <;> rfl

/-- What a command can answer: its effect, if it is accepted, or the same state with one DIAG bit more. -/
theorem exec_inversion {i : Instr} {s t : State} (h : exec i s = .next t) :
    (s.refusal i = none ∧ t = commandEffect i s) ∨ ∃ d, s.refusal i = some d ∧ t = s.raise d := by
  rcases exec_cases i s with ⟨accepted, answer⟩ | ⟨d, refused, answer⟩
  · exact .inl ⟨accepted, Host.Outcome.next.inj (h.symm.trans answer)⟩
  · exact .inr ⟨d, refused, Host.Outcome.next.inj (h.symm.trans answer)⟩

/-- Besides what its effect writes, a command writes DIAG (R285). -/
theorem exec_frame {i : Instr} {s t : State} (h : exec i s = .next t) :
    Frame (fun s t => { commandWrites i s t with diag := t.diag }) s t := by
  rcases exec_inversion h with ⟨-, effect⟩ | ⟨d, -, rfl⟩
  · have writes : Frame (commandWrites i) s t := effect ▸ commandEffect_frame i s
    exact congrArg (fun u : State => { u with diag := t.diag }) writes
  · exact raise_frame i s d

end Sys2Proof.Machine
end

section
/-!
PROOFS. The statements of 10_state.md on issuing a command, the register window, the reset, and which command writes or reads
which part of the state (R24 to R51).
-/

namespace Sys2Proof.Machine

/-! ## When a command is accepted -/

/-- A command is accepted when none of the checks of R285 holds. -/
theorem State.refusal_eq_none_iff (s : State) (i : Instr) :
    s.refusal i = none ↔
      (s.inited = false → i = .init) ∧ i.color? ≠ some .reserved ∧ (isWindowCommand i = true → s.active = false) ∧
        (i = .setPartialWindow → s.profile.partialOk = true) ∧
        (isImageCommand i = true → s.profile.partialOk = false → s.opRect = fullRect s.profile) := by
  unfold State.refusal
  split_ifs <;> simp_all

/-- After INIT the page protocol is never refused (R285). -/
theorem State.refusal_pageProtocol {s : State} (h : s.inited = true) :
    s.refusal .beginFrame = none ∧ s.refusal .advancePage = none := by
  constructor <;> simp [State.refusal_eq_none_iff, h, Instr.color?, isWindowCommand, isImageCommand]

/-! ## One step -/

/-- A step takes the next input (R20). -/
theorem step_of_input {s : State} {i : Input} {rest : List Input} (h : s.inputs = i :: rest) :
    step s = ({ s with inputs := rest }).accept i := by
  simp only [step, State.move, h]

/-- An aligned 32-bit host write is the register's write (R81). -/
theorem step_writeReg (r : Reg) {s : State} {v : Word} {rest : List Input} (h : s.inputs = .hostWrite 4 r.offset v :: rest) :
    step s = .next (({ s with inputs := rest }).writeReg r v) := by
  rw [step_of_input h, State.accept, State.busWrite_offset]

theorem commitResult_eq_afterCommand (r : Result) : commitResult r = afterCommand r := by cases r <;> rfl

/-- The engine's turn with a command latched (R51, R82). -/
theorem engineMove_of_decode {s : State} {i : Instr} (hb : s.busy = true) (hd : decode s.op.cmd = .ok i) :
    s.engineMove = afterCommand (exec i s) := by
  simp only [State.engineMove, hb, if_true, State.runLatched, hd, commitResult_eq_afterCommand]

/-- Settles O4: with a command latched, the engine's move is what either step makes. -/
theorem stepRunsTheDecodedCommand : Obligations.StepRunsTheDecodedCommand := by
  intro s i busy latched
  constructor
  · intro noInput
    rw [← engineMove_of_decode busy latched]
    simp only [step, State.move, noInput]
  · intro rest lined
    rw [step_of_input lined]
    exact engineMove_of_decode (s := { s with inputs := rest }) busy latched

/-! ## Host accesses -/

/-- Settles O6: a write at CMD's offset is `writeCmd`, which looks at BUSY only. -/
theorem cmdWriteIssuesOrOverruns : Obligations.CmdWriteIssuesOrOverruns := by
  intro s v
  refine ⟨fun rest write => ?_, s.busRead_offset .cmd⟩
  rw [step_writeReg .cmd write]
  constructor
  · intro idle
    simp only [State.writeReg, State.writeCmd, idle]
    rfl
  · intro busy
    simp only [State.writeReg, State.writeCmd, busy]
    rfl

/-- Settles O10: the issue copies the ARG registers, and every command ignores them; that it writes neither them nor the latch
is its frame. -/
theorem operandsComeFromTheLatch : Obligations.OperandsComeFromTheLatch := by
  constructor
  · intro s v rest idle write
    rw [step_writeReg .cmd write]
    simp only [State.writeReg, State.writeCmd, idle]
    exact ⟨_, rfl, rfl, rfl, rfl, rfl, rfl⟩
  · intro s i a b c d
    obtain ⟨t, answer, answerWith⟩ := exec_withArgs i s a b c d
    have writes := exec_frame answer
    refine ⟨t, answer, ?_, ?_, ?_, ?_, ?_, answerWith⟩
    all_goals rw [writes]; cases i <;> rfl

/-- Settles O11: each clause is the write or the read of one register. -/
theorem hostWritesStoreArgsAndClearDiag : Obligations.HostWritesStoreArgsAndClearDiag := by
  intro s v
  refine ⟨fun rest write => step_writeReg .argXY write, fun rest write => step_writeReg .argWH write,
    fun rest write => step_writeReg .argSrc0 write, fun rest write => step_writeReg .argSrc1 write,
    fun rest write => ⟨_, step_writeReg .diag write, fun k hk => ?_⟩,
    s.busRead_offset .argXY, s.busRead_offset .argWH, s.busRead_offset .argSrc0, s.busRead_offset .argSrc1, fun k => ?_⟩
  · simp [hk]
  · have value : s.busRead 4 0x18 = 0#26 ++ s.diag := s.busRead_offset .diag
    rw [value, BitVec.getLsbD_append]
    split
    · rfl
    · rename_i above
      rw [BitVec.getLsbD_zero, BitVec.getLsbD_of_ge _ _ (by omega)]

/-- No register sees an access that is narrow, unaligned or at a reserved offset (R42, R69). -/
theorem access_unseen {width off : Nat} (h : width ≠ 4 ∨ off % 4 ≠ 0 ∨ 0x3C ≤ off) :
    validAccess width off = false ∨ regAt off = none := by
  rcases h with narrow | unaligned | reserved
  · exact .inl (by simp [validAccess, narrow])
  · exact .inl (by simp [validAccess, unaligned])
  · exact .inr (regAt_of_le reserved)

/-- Settles O12: no register sees such an access, and a read is answered into the model's own field only. -/
theorem inertAccessesAndReads : Obligations.InertAccessesAndReads := by
  intro s width off v
  refine ⟨fun inert => ?_, fun rest read => step_of_input read⟩
  rcases access_unseen inert with invalid | none
  · exact ⟨by simp [State.busRead, invalid], fun rest write => by
      simp [step_of_input write, State.accept, State.busWrite, invalid]⟩
  · exact ⟨by simp [State.busRead, none], fun rest write => by
      simp [step_of_input write, State.accept, State.busWrite, none]⟩

/-! ## STATUS

Where a register is a chain of fields, `change` writes its width as the sum of theirs, as the append lemmas have it. -/

theorem getLsbD_append_ofBool_zero {n : Nat} (x : BitVec n) (b : Bool) : (x ++ BitVec.ofBool b).getLsbD 0 = b := by
  rw [BitVec.getLsbD_append, if_pos Nat.one_pos]
  cases b <;> rfl

theorem getLsbD_append_ofBool_succ {n : Nat} (x : BitVec n) (b : Bool) (k : Nat) :
    (x ++ BitVec.ofBool b).getLsbD (k + 1) = x.getLsbD k := by
  rw [BitVec.getLsbD_append, if_neg (by omega), Nat.add_sub_cancel]

/-- STATUS from bit 0 up; the bits above read 0 (R29). -/
theorem State.status_getLsbD (s : State) (k : Nat) :
    s.status.getLsbD k =
      [s.busy, s.cont, s.active, s.phase.bit, s.pwr, s.winMode.isPartial, s.inited, s.passPartial].getD k false := by
  change BitVec.getLsbD (w := 24 + 1 + 1 + 1 + 1 + 1 + 1 + 1 + 1) _ k = _
  unfold State.status
  match k with
  | 0 | 1 | 2 | 3 | 4 | 5 | 6 | 7 | k + 8 =>
    simp only [getLsbD_append_ofBool_zero, getLsbD_append_ofBool_succ, BitVec.getLsbD_zero]
    rfl

theorem State.busRead_status (s : State) : s.busRead 4 0x14 = s.status := s.busRead_offset .status

theorem State.active_eq (s : State) : s.active = decide (s.cursor ≠ none) := by
  unfold State.active
  cases s.cursor <;> rfl

/-- Settles O13: the layout of STATUS, bit by bit. -/
theorem statusShowsItsFields : Obligations.StatusShowsItsFields := by
  intro s
  have bit (k : Nat) : (s.busRead 4 0x14).getLsbD k =
      [s.busy, s.cont, s.active, s.phase.bit, s.pwr, s.winMode.isPartial, s.inited, s.passPartial].getD k false := by
    rw [s.busRead_status, s.status_getLsbD]
  have phase : s.phase.bit = decide (s.phase = .second) := by cases s.phase <;> rfl
  have mode : s.winMode.isPartial = decide (s.winMode = .partialMode) := by cases s.winMode <;> rfl
  refine ⟨bit 0, bit 1, (bit 2).trans s.active_eq, (bit 3).trans phase, bit 4, (bit 5).trans mode, bit 6, bit 7,
    fun k hk => (bit k).trans (List.getD_eq_default _ _ hk), fun v rest write => step_writeReg .status write, fun p => ?_⟩
  rw [State.busRead_status]
  show 0#24 ++ BitVec.ofBool false ++ BitVec.ofBool false ++ BitVec.ofBool false ++ BitVec.ofBool false ++
    BitVec.ofBool false ++ BitVec.ofBool false ++ BitVec.ofBool false ++ BitVec.ofBool false = 0#32
  decide

/-! ## The view registers -/

/-- PCFG from bit 0 up; the bits above read 0 (R40). -/
theorem State.pcfgReg_getLsbD (s : State) (k : Nat) :
    s.pcfgReg.getLsbD k =
      [(BitVec.ofNat 1 (s.profile.planes - 1)).getLsbD 0, (Encoding.code s.profile.enc).getLsbD 0,
        (Encoding.code s.profile.enc).getLsbD 1, s.profile.twoPass, s.profile.partialOk,
        (Stream.code s.profile.stream).getLsbD 0, (WinEncoding.code s.profile.winEnc).getLsbD 0,
        (WinEncoding.code s.profile.winEnc).getLsbD 1, s.profile.busyLevel, s.profile.wakeNeedsReset, s.profile.invBlack,
        s.profile.invAccent].getD k false := by
  change BitVec.getLsbD (w := 20 + 1 + 1 + 1 + 1 + 2 + 1 + 1 + 1 + 2 + 1) _ k = _
  unfold State.pcfgReg
  simp only [BitVec.getLsbD_append]
  match k with
  | 0 | 1 | 2 | 3 | 4 | 5 | 6 | 7 | 8 | 9 | 10 | 11 | k + 12 => simp

/-- The rotation stands above the 16 bits of the page height in GEOM (R35). -/
theorem State.geomReg_rotation (s : State) : s.geomReg.extractLsb' 16 2 = rotationBits s.rot := by
  unfold State.geomReg
  rw [BitVec.extractLsb'_append_eq_of_le (by decide), BitVec.extractLsb'_append_eq_right]
  cases s.rot <;> rfl

/-- GEOM above the rotation: the mirror flag, then zeros (R35). -/
theorem State.geomReg_getLsbD (s : State) (k : Nat) : s.geomReg.getLsbD (18 + k) = [s.mirror].getD k false := by
  unfold State.geomReg
  rw [BitVec.getLsbD_append, if_neg (by omega), BitVec.getLsbD_append, if_neg (by omega), show 18 + k - 16 - 2 = k by omega]
  match k with
  | 0 => exact getLsbD_append_ofBool_zero _ _
  | k + 1 =>
    rw [getLsbD_append_ofBool_succ, BitVec.getLsbD_zero]
    rfl

/-- The fields of PCFG that are no single bits (R40). -/
theorem State.pcfgReg_fields (s : State) :
    s.pcfgReg.extractLsb' 0 1 = BitVec.ofNat 1 (s.profile.planes - 1) ∧
      s.pcfgReg.extractLsb' 1 2 = Encoding.code s.profile.enc ∧
      s.pcfgReg.extractLsb' 6 2 = WinEncoding.code s.profile.winEnc := by
  unfold State.pcfgReg
  refine ⟨BitVec.extractLsb'_append_eq_right, ?_, ?_⟩
  · rw [BitVec.extractLsb'_append_eq_of_le (by decide)]
    exact BitVec.extractLsb'_append_eq_right
  · iterate 5 rw [BitVec.extractLsb'_append_eq_of_le (by decide)]
    exact BitVec.extractLsb'_append_eq_right

/-- A write to a view register does nothing (R34 to R41, R81). -/
theorem step_writeView {off : Nat} (hoff : off ∈ [0x1C, 0x20, 0x24, 0x28, 0x2C, 0x30, 0x34, 0x38]) {s : State} {v : Word}
    {rest : List Input} (write : s.inputs = .hostWrite 4 off v :: rest) : step s = .next { s with inputs := rest } := by
  simp only [List.mem_cons, List.not_mem_nil, or_false] at hoff
  rcases hoff with rfl | rfl | rfl | rfl | rfl | rfl | rfl | rfl
  · exact step_writeReg .page write
  · exact step_writeReg .geom write
  · exact step_writeReg .winXY write
  · exact step_writeReg .winWH write
  · exact step_writeReg .busyUs write
  · exact step_writeReg .panel write
  · exact step_writeReg .pcfg write
  · exact step_writeReg .capr write

/-- GEOM after reset shows no rotation and no mirroring (R35, R50). -/
theorem geomReg_resetFor (p : Profile) :
    (State.resetFor p).geomReg = 0#16 ++ BitVec.ofNat 16 (min p.pageHeight 0xFFFF) := by
  have unturned : 0#13 ++ BitVec.ofBool false ++ 0#2 = 0#16 := by decide
  exact congrArg (· ++ BitVec.ofNat 16 (min p.pageHeight 0xFFFF)) unturned

/-- Settles O14: the layouts of the eight view registers, and that writes to them do nothing. -/
theorem viewRegistersShowTheState : Obligations.ViewRegistersShowTheState := by
  intro s
  have page : s.busRead 4 0x1C = s.pageReg := s.busRead_offset .page
  have geom : s.busRead 4 0x20 = s.geomReg := s.busRead_offset .geom
  have winXY : s.busRead 4 0x24 = s.winXYReg := s.busRead_offset .winXY
  have winWH : s.busRead 4 0x28 = s.winWHReg := s.busRead_offset .winWH
  have panel : s.busRead 4 0x30 = s.panelReg := s.busRead_offset .panel
  have pcfg : s.busRead 4 0x34 = s.pcfgReg := s.busRead_offset .pcfg
  obtain ⟨planes, enc, winEnc⟩ := s.pcfgReg_fields
  have bit := s.pcfgReg_getLsbD
  rw [page, geom, winXY, winWH, panel, pcfg]
  refine ⟨fun n cursor => ?_, fun cursor => ?_, BitVec.extractLsb'_append_eq_left, BitVec.extractLsb'_append_eq_right,
    s.geomReg_rotation, s.geomReg_getLsbD 0, fun k hk => ?_, fun full => ?_, fun part => ?_, s.busRead_offset .busyUs,
    BitVec.extractLsb'_append_eq_right, BitVec.extractLsb'_append_eq_left, planes, ?_,
    bit 3, bit 4, ?_, ?_, bit 8, bit 9, bit 10, bit 11, fun k hk => ?_, s.busRead_offset .capr,
    fun off view v rest write => step_writeView view write, fun p => ?_⟩
  · rw [State.pageReg, cursor]
    exact BitVec.extractLsb'_append_eq_right
  · rw [State.pageReg, cursor]
    exact BitVec.extractLsb'_append_eq_right
  · obtain ⟨j, rfl⟩ := Nat.exists_eq_add_of_le hk
    rw [show 19 + j = 18 + (j + 1) by omega, s.geomReg_getLsbD]
    rfl
  · simp only [State.winXYReg, State.winWHReg, full]
    exact ⟨trivial, BitVec.extractLsb'_append_eq_right, BitVec.extractLsb'_append_eq_left⟩
  · simp only [State.winXYReg, State.winWHReg, part]
    exact ⟨BitVec.extractLsb'_append_eq_right, BitVec.extractLsb'_append_eq_left, BitVec.extractLsb'_append_eq_right,
      BitVec.extractLsb'_append_eq_left⟩
  · rw [enc]
    cases s.profile.enc <;> rfl
  · refine (bit 5).trans ?_
    cases s.profile.stream <;> rfl
  · rw [winEnc]
    cases s.profile.winEnc <;> rfl
  · exact (bit k).trans (List.getD_eq_default _ _ hk)
  · have value (r : Reg) := (State.resetFor p).busRead_offset r
    exact ⟨value .page, (value .geom).trans (geomReg_resetFor p), value .winXY, value .winWH, value .busyUs⟩

/-! ## Reset -/

/-- Settles O15: `State.resetFor` writes the table of R50 out. -/
theorem resetValues : Obligations.ResetValues := by
  intro p
  refine ⟨?_, ?_, ?_, ?_, ?_, ?_, ?_, ?_, ?_, ?_, ?_, ?_, ?_, ?_, ?_, ?_, ?_, ?_, ?_, ?_, ?_⟩ <;> rfl

theorem State.pendingEvents_idle {s : State} (h : s.busy = false) : s.pendingEvents = [] := by
  simp [State.pendingEvents, State.engineMove, h]

/-- The events of a command under way are those its own turn would add to the wire (R310). -/
theorem State.wire_of_engineMove {s u : State} (h : s.engineMove = .next u) : u.wire = s.wire ++ s.pendingEvents := by
  obtain ⟨evs, sent⟩ := (HistoryKept.engineMove h).wire
  have pending : s.pendingEvents = u.wire.drop s.wire.length := by simp only [State.pendingEvents, h]
  rw [pending, ← sent, List.drop_left]

/-- Settles O16: the reset keeps the first `n` of the pending events, and the turn would send them all. -/
theorem hardResetCutsTheCommand : Obligations.HardResetCutsTheCommand := by
  intro s n rest reset
  refine ⟨({ s with inputs := rest }).pendingEvents.take n, _, step_of_input reset, rfl, fun idle => ?_, fun _ u turn => ?_⟩
  · rw [State.pendingEvents_idle (s := { s with inputs := rest }) idle, List.take_nil]
  · have sent : u.wire = s.wire ++ ({ s with inputs := rest }).pendingEvents := State.wire_of_engineMove turn
    generalize ({ s with inputs := rest }).pendingEvents = pending at *
    refine ⟨pending.drop n, by rw [sent, List.append_assoc, List.take_append_drop], ?_⟩
    rw [List.length_take, List.drop_eq_nil_iff]
    omega

/-! ## What a command does not write or read -/

/-- No register shows the frame buffer. -/
theorem State.busRead_withBuffer (s : State) (b a : Memory) (width off : Nat) :
    (s.withBuffer b a).busRead width off = s.busRead width off := by
  have value (r : Reg) : (s.withBuffer b a).regValue r = s.regValue r := by cases r <;> rfl
  simp only [State.busRead, value]

/-- Settles O18: no register shows the buffer, every other command is refused, and INIT clears it. -/
theorem resetBufferIsUnobservable : Obligations.ResetBufferIsUnobservable := by
  intro s b a blank
  refine ⟨s.busRead_withBuffer b a, fun i notInit => ?_, ?_⟩
  · have refused : s.refusal i = some .noinit := by simp [State.refusal, blank, notInit]
    have refusedWith : (s.withBuffer b a).refusal i = some .noinit :=
      (State.refusal_congr i rfl rfl rfl rfl).trans refused
    exact ⟨s.raise .noinit, by rw [exec_eq_perform, State.perform_of_refused _ refused],
      (exec_eq_perform i _).trans (State.perform_of_refused _ refusedWith)⟩
  · have answer (t : State) : exec .init t = .next t.initialise := by
      rw [exec_eq_perform, State.perform_of_accepted _ t.refusal_init]
      rfl
    rw [answer, answer]
    rfl

/-- Settles O57: no other command has the geometry in its frame. -/
theorem onlySetRotationWritesTheGeometry : Obligations.OnlySetRotationWritesTheGeometry := by
  intro s t i answer other
  rw [exec_frame answer]
  cases i with
  | setRotation r m => exact absurd rfl (other r m)
  | _ => exact ⟨rfl, rfl⟩

/-- Settles O58: the other commands ignore the buffer and do not have it in their frames. -/
theorem onlyBufferCommandsTouchTheBuffer : Obligations.OnlyBufferCommandsTouchTheBuffer := by
  intro s i b a noFill noPixel noPixelPhys noInit noBegin noAdvance
  have other : ¬ usesBuffer i := by
    cases i with
    | fill c => exact absurd rfl (noFill c)
    | setPixel c => exact absurd rfl (noPixel c)
    | setPixelPhys c => exact absurd rfl (noPixelPhys c)
    | init => exact absurd rfl noInit
    | beginFrame => exact absurd rfl noBegin
    | advancePage => exact absurd rfl noAdvance
    | _ => exact id
  obtain ⟨t, answer, answerWith⟩ := exec_withBuffer other s b a
  have kept : t.fbBlack = s.fbBlack ∧ t.fbAccent = s.fbAccent := by
    rw [exec_frame answer]
    cases i with
    | init | fill | setPixel | setPixelPhys | beginFrame | advancePage => exact absurd trivial other
    | _ => exact ⟨rfl, rfl⟩
  exact ⟨t, answer, kept.1, kept.2, answerWith⟩

/-- A window command in a pass is refused (R231, R285). -/
theorem exec_window_active {i : Instr} {s t : State} (h : exec i s = .next t) (hi : isWindowCommand i = true)
    (ha : s.cursor ≠ none) : ∃ d, t = s.raise d := by
  rcases exec_inversion h with ⟨accepted, -⟩ | ⟨d, -, refused⟩
  · obtain ⟨-, -, inactive, -, -⟩ := (s.refusal_eq_none_iff i).1 accepted
    exact absurd (s.active_eq.symm.trans (inactive hi)) (by simpa using ha)
  · exact ⟨d, refused⟩

/-- Settles O59: only INIT and BEGIN_FRAME have the latched pass in their frames, and the window commands, which alone have the
Update Window in theirs besides INIT, are refused in a pass. -/
theorem passWindowIsFrozen : Obligations.PassWindowIsFrozen := by
  intro s t i answer noInit
  constructor
  · intro noBegin
    rw [exec_frame answer]
    cases i with
    | init => exact absurd rfl noInit
    | beginFrame => exact absurd rfl noBegin
    | _ => exact ⟨rfl, rfl⟩
  · intro active
    by_cases window : isWindowCommand i = true
    · obtain ⟨d, rfl⟩ := exec_window_active answer window active
      exact ⟨rfl, rfl⟩
    · rw [exec_frame answer]
      cases i with
      | init => exact absurd rfl noInit
      | setFullWindow => exact absurd rfl window
      | setPartialWindow => exact absurd rfl window
      | _ => exact ⟨rfl, rfl⟩

/-- After a page CONT says whether the pass goes on (R153). -/
theorem leavePage_cont (s : State) (n : Nat) : (s.leavePage n).cont = decide ((s.leavePage n).cursor ≠ none) := by
  unfold State.leavePage
  split
  · rfl
  · split <;> rfl

theorem advance_cont (s : State) : s.advance.cont = decide (s.advance.cursor ≠ none) := by
  unfold State.advance
  split
  next noPass => simp [noPass]
  next n _ => exact leavePage_cont _ n

/-- Settles O56: the three commands that have CONT in their frames are accepted, and each sets it as said. -/
theorem contIsThePageProtocolsAnswer : Obligations.ContIsThePageProtocolsAnswer := by
  intro s t i inited answer
  have effect (accepted : s.refusal i = none) : t = commandEffect i s := by
    rcases exec_inversion answer with ⟨-, effect⟩ | ⟨d, refused, -⟩
    · exact effect
    · rw [accepted] at refused
      cases refused
  obtain ⟨begins, advances⟩ := State.refusal_pageProtocol inited
  refine ⟨?_, ?_, ?_, ?_, fun noBegin noAdvance noInit => ?_⟩
  · rintro rfl
    rw [effect begins]
    rfl
  · rintro rfl
    rw [effect advances]
    exact advance_cont s
  · rintro rfl
    rw [effect s.refusal_init]
    rfl
  · rw [State.busRead_status]
    exact t.status_getLsbD 1
  · rw [exec_frame answer]
    cases i with
    | init => exact absurd rfl noInit
    | beginFrame => exact absurd rfl noBegin
    | advancePage => exact absurd rfl noAdvance
    | _ => rfl

end Sys2Proof.Machine
end

section
/-!
PROOFS. Page geometry, and the page rectangles of a pass (R140 to R147, R161).
-/

namespace Sys2Proof

theorem Profile.admitted_of_wf {p : Profile} (h : p.wf = true) : Machine.admitted p := (Machine.wf_iff_admitted p).1 h

section
variable {p : Profile} (h : p.wf = true)
include h

theorem Profile.bpr_pos : 0 < p.bpr := by
  obtain ⟨⟨-, wide, -⟩, bpr, -⟩ := Profile.admitted_of_wf h
  omega

/-- A row of the panel is BPR bytes (R12). -/
theorem Profile.width_eq : p.width = 8 * p.bpr := by
  obtain ⟨⟨whole, -⟩, bpr, -⟩ := Profile.admitted_of_wf h
  omega

/-- A page's rows fill the buffer (R140). -/
theorem Profile.pageHeight_mul_bpr : p.pageHeight * p.bpr = p.cap := by
  obtain ⟨-, -, ⟨whole, -⟩, -⟩ := Profile.admitted_of_wf h
  exact Nat.div_mul_cancel (Nat.dvd_of_mod_eq_zero whole)

theorem Profile.pageHeight_pos : 0 < p.pageHeight := by
  obtain ⟨-, -, ⟨-, row⟩, -⟩ := Profile.admitted_of_wf h
  exact Nat.div_pos row (Profile.bpr_pos h)

/-- Page numbers are those whose first row is on the panel (R141). -/
theorem Profile.lt_pageCount_iff (n : Nat) : n < p.pageCount ↔ n * p.pageHeight < p.height := by
  have rows := Profile.pageHeight_pos h
  rw [Profile.pageCount, ← Nat.succ_le_iff, Nat.le_div_iff_mul_le rows, Nat.succ_mul]
  omega

end
end Sys2Proof

namespace Sys2Proof.Machine

/-- The rows of a rectangle from `y` on, `h` of them, in order. -/
def rowsFrom (y h : Int) : List Int := (List.range h.toNat).map fun (i : Nat) => y + (i : Int)

/-- The byte positions of one row of a rectangle. -/
def Rect.rowCells (x w Y : Int) : List (Int × Int) :=
  (List.range (w / 8).toNat).map fun (j : Nat) => (x / 8 + (j : Int), Y)

/-- A rectangle's positions, row by row. -/
theorem Rect.cells_eq_flatMap (R : Rect) : R.cells = (rowsFrom R.y R.h).flatMap (Rect.rowCells R.x R.w) := by
  rw [rowsFrom, List.flatMap_map]
  rfl

/-- Rows that go on where others end. -/
theorem rowsFrom_append {y z a b : Int} (ha : 0 ≤ a) (hb : 0 ≤ b) (hz : b ≠ 0 → z = y + a) :
    rowsFrom y a ++ rowsFrom z b = rowsFrom y (a + b) := by
  obtain ⟨m, rfl⟩ := Int.eq_ofNat_of_zero_le ha
  obtain ⟨n, rfl⟩ := Int.eq_ofNat_of_zero_le hb
  simp only [rowsFrom, Int.toNat_natCast, ← Int.natCast_add, List.range_add, List.map_append, List.map_map]
  congr 1
  refine List.map_congr_left fun i hi => ?_
  have next := hz (by rw [List.mem_range] at hi; omega)
  simp only [Function.comp_apply]
  omega

/-- The rows that the first `k` pages have in the pass window, page after page, are the window's rows above page `k`. -/
theorem rowsFrom_pages {s : State} (hwf : s.profile.wf = true) (hy : 0 ≤ s.passWin.y) (k : Nat)
    (hk : k ≤ s.profile.pageCount) :
    (List.range k).flatMap (fun n => rowsFrom (s.pageRect n).y (s.pageRect n).h) =
      rowsFrom s.passWin.y
        (max 0 (min s.passWin.h (min ((k : Int) * s.profile.pageHeight) s.profile.height - s.passWin.y))) := by
  induction k with
  | zero =>
    have none : max 0 (min s.passWin.h
        (min (((0 : Nat) : Int) * s.profile.pageHeight) s.profile.height - s.passWin.y)) = 0 := by
      simp only [Nat.cast_zero, Int.zero_mul]
      omega
    rw [none]
    rfl
  | succ k ih =>
    have start : (k : Int) * s.profile.pageHeight < s.profile.height := by
      exact_mod_cast (Profile.lt_pageCount_iff hwf k).1 hk
    rw [List.range_succ, List.flatMap_append, ih (by omega), List.flatMap_singleton]
    simp only [State.pageRect, Profile.pageStart, Profile.pageRows, Nat.cast_add, Nat.cast_one, Int.add_mul, Int.one_mul]
    generalize (k : Int) * s.profile.pageHeight = ps at *
    rw [rowsFrom_append (by omega) (by omega) (by omega)]
    congr 1
    omega

theorem pageRect_cells (s : State) (n : Nat) :
    (s.pageRect n).cells = (rowsFrom (s.pageRect n).y (s.pageRect n).h).flatMap (Rect.rowCells s.passWin.x s.passWin.w) :=
  Rect.cells_eq_flatMap _

/-- The pages' rectangles cut the pass window into bands, top to bottom (R152, R161). -/
theorem pageRects_tile {s : State} (hwf : s.profile.wf = true) (hin : s.passWin.inPanel s.profile) :
    (List.range s.profile.pageCount).flatMap (fun n => (s.pageRect n).cells) = s.passWin.cells := by
  have last : (s.profile.height : Int) ≤ s.profile.pageCount * s.profile.pageHeight := by
    exact_mod_cast Nat.le_of_not_lt fun h => Nat.lt_irrefl _ ((Profile.lt_pageCount_iff hwf _).2 h)
  have whole : max 0 (min s.passWin.h
      (min ((s.profile.pageCount : Int) * s.profile.pageHeight) s.profile.height - s.passWin.y)) = s.passWin.h := by
    have := hin.y_end
    have := hin.h_nonneg
    omega
  simp only [pageRect_cells]
  rw [← List.flatMap_assoc, rowsFrom_pages hwf hin.y_nonneg _ le_rfl, whole, Rect.cells_eq_flatMap]

/-- A page's rectangle holds the window's positions in the page's rows (R146). -/
theorem mem_pageRect_cells (s : State) (n : Nat) (c Y : Int) :
    (c, Y) ∈ (s.pageRect n).cells ↔
      (c, Y) ∈ s.passWin.cells ∧ s.profile.pageStart n ≤ Y ∧ Y < s.profile.pageStart n + s.profile.pageRows n := by
  simp only [Rect.mem_cells, State.pageRect]
  omega

/-- The byte of a position of the resident page lies in the buffer (R140, R144, R147). -/
theorem pageByte_index {s : State} (hwf : s.profile.wf = true) (hin : s.passWin.inPanel s.profile) {n : Nat} {c Y : Int}
    (h : (c, Y) ∈ (s.pageRect n).cells) :
    0 ≤ (Y - s.profile.pageStart n) * s.profile.bpr + c ∧
      (Y - s.profile.pageStart n) * s.profile.bpr + c < s.profile.cap := by
  obtain ⟨inWindow, below, above⟩ := (mem_pageRect_cells s n c Y).1 h
  have col : 0 ≤ c ∧ c < s.profile.bpr := by
    have := Profile.width_eq hwf
    have := hin.x_nonneg
    have := hin.w_nonneg
    have := hin.x_end
    rw [Rect.mem_cells] at inWindow
    omega
  have row : 0 ≤ Y - s.profile.pageStart n ∧ Y - s.profile.pageStart n + 1 ≤ s.profile.pageHeight := by
    unfold Profile.pageRows at above
    omega
  have cap : (s.profile.pageHeight : Int) * s.profile.bpr = s.profile.cap := by
    exact_mod_cast Profile.pageHeight_mul_bpr hwf
  have rowEnd := Int.mul_le_mul_of_nonneg_right row.2 (Int.natCast_nonneg s.profile.bpr)
  have rowStart := Int.mul_nonneg row.1 (Int.natCast_nonneg s.profile.bpr)
  rw [Int.add_mul] at rowEnd
  omega

/-- Settles O33: the pages cut the window's rows into bands, and a position of a band lies in the buffer. -/
theorem pageRectsTileThePassWindow : Obligations.PageRectsTileThePassWindow := by
  intro s hwf hin
  refine ⟨pageRects_tile hwf hin, fun n _ =>
    ⟨pageRect_eq_byRule s n, mem_pageRect_cells s n, fun q c Y position => ?_, rfl, rfl⟩⟩
  obtain ⟨nonneg, belowCap⟩ := pageByte_index hwf hin position
  refine ⟨((Y - s.profile.pageStart n) * s.profile.bpr + c).toNat, Int.toNat_of_nonneg nonneg, by omega, ?_,
    by cases q <;> rfl⟩
  rw [State.pageByte, State.bufRead, if_pos ⟨nonneg, belowCap⟩]

end Sys2Proof.Machine
end

section
/-!
PROOFS. The engine's invariant (Safety.lean): each of its parts is kept by every accepted command, and so the whole by every
step.
-/

namespace Sys2Proof.Machine

/-! ## Pins and power -/

/-- Events that begin with CS and RST at 1 end so (R184). -/
theorem pinsAfter_idle (evs : List WireEvent) {pins : Pins} (h : pins.cs = true ∧ pins.rst = true) :
    (pinsAfter pins evs).cs = true ∧ (pinsAfter pins evs).rst = true := by
  have transfers (bs : List Byte) (p : Pins) : (bs.map PinAction.transfer).foldl Pins.after p = p := by
    induction bs generalizing p with
    | nil => rfl
    | cons b bs ih => exact ih p
  induction evs generalizing pins with
  | nil => exact h
  | cons e evs ih =>
    refine ih ?_
    cases e with
    | cmd b => exact ⟨rfl, h.2⟩
    | data bs =>
      simp only [WireEvent.pinActions, List.foldl_append, transfers]
      exact ⟨rfl, h.2⟩
    | reset lo hi => exact ⟨h.1, rfl⟩
    | delay ms => exact h
    | busy o el => exact h

/-- Whatever the wire carried, the pins are at rest again (R184). -/
theorem Observed.pinsIdle {s t : State} {exp : List Expected} (h : Observed s t exp) (hs : s.pinsIdle) : t.pinsIdle := by
  obtain ⟨evs, carried⟩ := h
  rw [State.pinsIdle, carried.pins]
  exact pinsAfter_idle evs hs

/-- From `s` to `t` the pins come to rest again and the power state (1, 1) is not entered (R184, R296). -/
structure PanelSound (s t : State) : Prop where
  pins : s.pinsIdle → t.pinsIdle
  power : s.powerOk → t.powerOk

namespace PanelSound

theorem refl (s : State) : PanelSound s s := ⟨id, id⟩

theorem trans {s t u : State} (h : PanelSound s t) (k : PanelSound t u) : PanelSound s u :=
  ⟨k.pins ∘ h.pins, k.power ∘ h.power⟩

theorem of_eq {s t : State} (hpins : t.pins = s.pins) (hpwr : t.pwr = s.pwr) (hneed : t.needReset = s.needReset) :
    PanelSound s t :=
  ⟨fun h => by rw [State.pinsIdle, hpins]; exact h, fun h => by rw [State.powerOk, hpwr, hneed]; exact h⟩

/-- A panel-side operation that does not set `needReset`. -/
theorem of_panelStep {s t : State} {exp : List Expected} (h : PanelStep s t exp)
    (hn : s.needReset = false → t.needReset = false) : PanelSound s t where
  pins := h.observed.pinsIdle
  power := by
    intro ok ⟨on, needed⟩
    have noPulse : s.needReset = false := by
      rw [h.only.pwr] at on
      simpa [State.powerOk, on] using ok
    rw [hn noPulse] at needed
    cases needed

theorem initPanel (s : State) (m : Mode) : PanelSound s (s.initPanel m) := by
  obtain ⟨observed, writes⟩ := initPanel_spec s m
  refine ⟨observed.pinsIdle, fun _ ⟨_, needed⟩ => ?_⟩
  rw [writes] at needed
  cases needed

theorem refresh (s : State) (m : Mode) : PanelSound s (s.refresh m) :=
  of_panelStep (refresh_panelStep s m) (runSeq_needReset _ s)

theorem powerOffIfOn (s : State) : PanelSound s s.powerOffIfOn := by
  by_cases on : s.pwr = true
  · obtain ⟨observed, writes⟩ := powerOffIfOn_on s on
    refine ⟨observed.pinsIdle, fun _ ⟨stillOn, _⟩ => ?_⟩
    rw [writes] at stillOn
    cases stillOn
  · rw [State.powerOffIfOn, if_neg on]
    exact refl s

theorem emitPlanes (s : State) (R : Rect) (src : ByteSource) : PanelSound s (s.emitPlanes R src) :=
  of_panelStep (emitPlanes_panelStep s R src) (emitPlanes_needReset s R src).trans

theorem emitCmd (s : State) (b : Byte) : PanelSound s (s.emitCmd b) := of_panelStep (emitCmd_panelStep s b) id

theorem setWindow (s : State) (R : Rect) : PanelSound s (s.setWindow R) := by
  refine of_panelStep (setWindow_panelStep s R) fun h => ?_
  unfold State.setWindow
  cases s.profile.winEnc with
  | abs => simpa [State.setWindowAbs] using h
  | entry => simpa [State.entryPointers, State.entryRanges, State.entryMode] using h
  | none => exact h

theorem of_bufferFrame {s t : State} (h : Frame State.bufferFrom s t) : PanelSound s t :=
  of_eq (h.field State.pins) (h.field State.pwr) (h.field State.needReset)

theorem startStream (s : State) : PanelSound s s.startStream := by
  unfold State.startStream
  split
  · exact refl s
  · split
    · exact emitCmd s _
    · exact (setWindow s _).trans (emitCmd _ _)

theorem beginPass (s : State) : PanelSound s s.beginPass := by
  have latched : PanelSound s s.latchPass := by
    unfold State.latchPass
    split <;> exact of_eq rfl rfl rfl
  exact ((latched.trans (initPanel _ _)).trans (startStream _)).trans (of_eq rfl rfl rfl)

theorem finalRefresh (s : State) : PanelSound s s.finalRefresh := by
  unfold State.finalRefresh
  split
  · exact refresh s _
  · exact (refresh s _).trans (powerOffIfOn _)

theorem leavePage (s : State) (n : Nat) : PanelSound s (s.leavePage n) := by
  have ended : PanelSound s s.endPass := (finalRefresh s).trans (of_eq rfl rfl rfl)
  unfold State.leavePage
  split
  · exact of_eq rfl rfl rfl
  · split
    · have cleared : PanelSound s { s with phase := .second, cursor := some 0 } := of_eq rfl rfl rfl
      exact (cleared.trans (emitCmd _ (s.profile.cmdWrite .accent))).trans (of_eq rfl rfl rfl)
    · exact ended.trans (of_eq rfl rfl rfl)

theorem advance (s : State) : PanelSound s s.advance := by
  unfold State.advance
  split
  · exact of_eq rfl rfl rfl
  · exact (of_panelStep (streamPage_panelStep s _) (streamPage_needReset s _).trans).trans (leavePage _ _)

theorem putImage (s : State) (f : ImageFlags) : PanelSound s (s.putImage f) := by
  unfold State.putImage
  split
  · exact initPanel s _
  · exact ((initPanel s _).trans (emitPlanes _ _ _)).trans (of_eq rfl rfl rfl)

theorem commandEffect (i : Instr) (s : State) : PanelSound s (commandEffect i s) := by
  cases i with
  | init => exact ⟨id, fun _ ⟨on, _⟩ => by cases on⟩
  | setRotation r m => exact of_eq rfl rfl rfl
  | setFullWindow => exact of_eq rfl rfl rfl
  | setPartialWindow => exact of_eq rfl rfl rfl
  | fill c => exact of_bufferFrame (fillWith_frame s c)
  | setPixel c => exact of_bufferFrame (plotLogical_frame s _ _ c)
  | setPixelPhys c => exact of_bufferFrame (plotPhys_frame s _ _ c)
  | beginFrame => exact beginPass s
  | advancePage => exact advance s
  | powerOff => exact powerOffIfOn s
  | clearPanel b a => exact (((initPanel s _).trans (emitPlanes _ _ _)).trans (refresh _ _)).trans (powerOffIfOn _)
  | writeImage f => exact putImage s f
  | drawImage f =>
    have drawn (m : Mode) : PanelSound s ((s.putImage f).refresh m) := (putImage s f).trans (refresh _ m)
    simp only [Machine.commandEffect, State.showImage]
    split
    · exact drawn _
    · exact (drawn _).trans (powerOffIfOn _)

end PanelSound

/-! ## The pager -/

theorem State.pagerOk.congr {s t : State} (h : s.pagerOk) (hp : t.profile = s.profile) (hc : t.cursor = s.cursor)
    (hf : t.phase = s.phase) (hi : t.inited = s.inited) : t.pagerOk where
  cursor_page := by rw [hc, hp]; exact h.cursor_page
  second_active := by rw [hf, hc, hp]; exact h.second_active
  active_inited := by rw [hc, hi]; exact h.active_inited

theorem State.pagerOk.of_noPass {s : State} (hc : s.cursor = none) (hf : s.phase = .first) : s.pagerOk where
  cursor_page n h := by simp [hc] at h
  second_active h := by simp [hf] at h
  active_inited h := absurd hc h

theorem State.pagerOk.of_pass {s : State} {n : Nat} (hc : s.cursor = some n) (hn : n < s.profile.pageCount)
    (hf : s.phase = .second → s.profile.twoPass = true) (hi : s.inited = true) : s.pagerOk where
  cursor_page m h := by
    rw [hc] at h
    cases h
    exact hn
  second_active h := ⟨by simp [hc], hf h⟩
  active_inited _ := hi

theorem pageCount_pos {p : Profile} (h : p.wf = true) : 0 < p.pageCount := by
  obtain ⟨⟨-, -, -, rows, -⟩, -⟩ := Profile.admitted_of_wf h
  rw [Profile.lt_pageCount_iff h]
  omega

theorem leavePage_pagerOk {s : State} {n : Nat} (hwf : s.profile.wf = true) (h : s.pagerOk) (hc : s.cursor = some n) :
    (s.leavePage n).pagerOk := by
  have inited : s.inited = true := h.active_inited (by simp [hc])
  unfold State.leavePage
  split
  next more => exact .of_pass rfl more (fun second => (h.second_active second).2) inited
  next =>
    split
    next phase => exact .of_pass rfl (pageCount_pos hwf) (fun _ => phase.1) inited
    next => exact .of_noPass rfl rfl

theorem advance_pagerOk {s : State} (hwf : s.profile.wf = true) (h : s.pagerOk) : s.advance.pagerOk := by
  unfold State.advance
  split
  · exact h.congr rfl rfl rfl rfl
  next n hc =>
    have streamed := (streamPage_panelStep s n).frame
    have profile := streamed.field State.profile
    exact leavePage_pagerOk (profile ▸ hwf)
      (h.congr profile (streamed.field State.cursor) (streamed.field State.phase) (streamed.field State.inited))
      ((streamed.field State.cursor).trans hc)

/-- An accepted command keeps the pager's part (R43, R44, R312). -/
theorem commandEffect_pagerOk {i : Instr} {s : State} (hwf : s.profile.wf = true) (h : s.pagerOk)
    (accepted : s.refusal i = none) : (commandEffect i s).pagerOk := by
  have writes := commandEffect_frame i s
  obtain ⟨inited, -⟩ := (s.refusal_eq_none_iff i).1 accepted
  cases i with
  | init => exact .of_noPass rfl rfl
  | beginFrame =>
    have started : s.inited = true := by simpa using inited
    have profile : (commandEffect .beginFrame s).profile = s.profile := writes.field State.profile
    exact .of_pass (n := 0) rfl (by rw [profile]; exact pageCount_pos hwf) nofun
      ((writes.field State.inited).trans started)
  | advancePage => exact advance_pagerOk hwf h
  | _ =>
    generalize commandEffect _ s = t at writes ⊢
    exact h.congr (writes.field State.profile) (writes.field State.cursor) (writes.field State.phase)
      (writes.field State.inited)

/-! ## The windows -/

theorem State.windowsOk.congr {s t : State} (h : s.windowsOk) (hp : t.profile = s.profile) (hw : t.win = s.win)
    (hpw : t.passWin = s.passWin) (hm : t.winMode = s.winMode) (hpp : t.passPartial = s.passPartial) : t.windowsOk where
  win_in := by rw [hw, hp]; exact h.win_in
  passWin_in := by rw [hpw, hp]; exact h.passWin_in
  full_pass := by rw [hpp, hpw, hp]; exact h.full_pass
  partial_win := by rw [hm, hp]; exact h.partial_win
  partial_pass := by rw [hpp, hp]; exact h.partial_pass

theorem fullRect_inPanel {p : Profile} (h : p.wf = true) : (fullRect p).inPanel p := by
  obtain ⟨⟨whole, -⟩, -⟩ := Profile.admitted_of_wf h
  constructor <;> simp only [fullRect] <;> omega

/-- Clipping and aligning put every rectangle inside the panel, byte-aligned (R233 to R237). -/
theorem alignRect_clipRect_inPanel {p : Profile} (h : p.wf = true) (R : Rect) : (alignRect (clipRect p R)).inPanel p := by
  obtain ⟨⟨whole, -⟩, -⟩ := Profile.admitted_of_wf h
  constructor <;> simp only [alignRect, clipRect, clamp, floor8, ceil8] <;> omega

theorem applyWindow_inPanel {p : Profile} (h : p.wf = true) (r : Rotation) (m : Bool) (R : Rect) :
    (applyWindow p r m R).inPanel p := alignRect_clipRect_inPanel h _

theorem latchPass_windowsOk {s : State} (hwf : s.profile.wf = true) (h : s.windowsOk) : s.latchPass.windowsOk := by
  unfold State.latchPass
  split
  next => exact ⟨h.win_in, fullRect_inPanel hwf, fun _ => rfl, h.partial_win, nofun⟩
  next part => exact ⟨h.win_in, h.win_in, nofun, h.partial_win, fun _ => h.partial_win part⟩

/-- After the pass is latched, BEGIN_FRAME leaves the windows alone (R145). -/
theorem beginPass_frame_latchPass (s : State) : Frame State.pagerFrom s.latchPass s.beginPass := by
  have entered (t : State) : Frame State.pagerFrom t t.enterPass := rfl
  exact ((initPanel_frame s.latchPass s.latchPass.passMode).trans (startStream_frame _)).mono.trans (entered _)

/-- An accepted command keeps the windows' part (R45, R145, R236, R237). -/
theorem commandEffect_windowsOk {i : Instr} {s : State} (hwf : s.profile.wf = true) (h : s.windowsOk)
    (accepted : s.refusal i = none) : (commandEffect i s).windowsOk := by
  have writes := commandEffect_frame i s
  obtain ⟨-, -, -, partialOk, -⟩ := (s.refusal_eq_none_iff i).1 accepted
  cases i with
  | init => exact ⟨h.win_in, fullRect_inPanel hwf, fun _ => rfl, nofun, nofun⟩
  | setFullWindow => exact ⟨h.win_in, h.passWin_in, h.full_pass, nofun, h.partial_pass⟩
  | setPartialWindow =>
    exact ⟨applyWindow_inPanel hwf _ _ _, h.passWin_in, h.full_pass, fun _ => partialOk rfl, h.partial_pass⟩
  | beginFrame =>
    have latched := beginPass_frame_latchPass s
    exact (latchPass_windowsOk hwf h).congr (latched.field State.profile) (latched.field State.win)
      (latched.field State.passWin) (latched.field State.winMode) (latched.field State.passPartial)
  | _ =>
    generalize commandEffect _ s = t at writes ⊢
    exact h.congr (writes.field State.profile) (writes.field State.win) (writes.field State.passWin)
      (writes.field State.winMode) (writes.field State.passPartial)

/-! ## The frame buffer -/

/-- The frame buffer's part of the invariant (R48, R61, R130). -/
structure State.bufferOk (s : State) : Prop where
  planes : ∀ q, (s.plane q).wfPlane s.profile.cap
  mono : s.profile.planes = 1 → s.fbAccent = []
  ink : s.singleInk

theorem State.bufferOk.congr {s t : State} (h : s.bufferOk) (hp : t.profile = s.profile) (hb : t.fbBlack = s.fbBlack)
    (ha : t.fbAccent = s.fbAccent) : t.bufferOk where
  planes q := by
    cases q with
    | black => rw [State.plane_black, hb, hp]; exact h.planes .black
    | accent => rw [State.plane_accent, ha, hp]; exact h.planes .accent
  mono := by rw [hp, ha]; exact h.mono
  ink i := by simpa only [State.fbRead, State.plane_black, State.plane_accent, hb, ha] using h.ink i

theorem singleInk_of_accent_nil {s : State} (h : s.fbAccent = []) : s.singleInk := fun i => by
  simp [State.fbRead, h, blankByte]

/-- A bit set in one plane is clear in the other. -/
theorem singleInk_iff (s : State) {q q' : Plane} (hq : q ≠ q') :
    s.singleInk ↔ ∀ i k, k < 8 → (s.fbRead q i).getLsbD k = true → (s.fbRead q' i).getLsbD k = false := by
  have bits (b a : Byte) : b &&& a = 0x00#8 ↔ ∀ k, k < 8 → b.getLsbD k = true → a.getLsbD k = false := by
    constructor
    · intro h k hk set
      have both : (b &&& a).getLsbD k = false := by rw [h, BitVec.getLsbD_zero]
      rwa [BitVec.getLsbD_and, set, Bool.true_and] at both
    · intro h
      refine BitVec.eq_of_getLsbD_eq fun k hk => ?_
      rw [BitVec.getLsbD_and, BitVec.getLsbD_zero, Bool.and_eq_false_imp]
      exact h k hk
  have pair : s.singleInk ↔ ∀ i, s.fbRead q i &&& s.fbRead q' i = 0x00#8 := by
    cases q <;> cases q'
    · exact absurd rfl hq
    · exact Iff.rfl
    · exact forall_congr' fun i => by rw [BitVec.and_comm]
    · exact absurd rfl hq
  exact pair.trans (forall_congr' fun i => bits _ _)

theorem wfPlane_nil (cap : Nat) : Memory.wfPlane [] cap := by simp [Memory.wfPlane]

theorem clearFB_bufferOk (s : State) : s.clearFB.bufferOk where
  planes q := by cases q <;> exact wfPlane_nil _
  mono _ := rfl
  ink := singleInk_of_accent_nil rfl

theorem withPlane_planes {s : State} (h : ∀ q, (s.plane q).wfPlane s.profile.cap) (q : Plane) {m : Memory}
    (hm : m.wfPlane s.profile.cap) (q' : Plane) : ((s.withPlane q m).plane q').wfPlane (s.withPlane q m).profile.cap := by
  cases q <;> cases q'
  · exact hm
  · exact h .accent
  · exact h .black
  · exact hm

/-- A write below CAP keeps the planes' canonical form. -/
theorem fbWrite_planes {s : State} (h : ∀ q, (s.plane q).wfPlane s.profile.cap) {q : Plane} {i : Nat} (v : Byte)
    (hi : i < s.profile.cap) (q' : Plane) : ((s.fbWrite q i v).plane q').wfPlane (s.fbWrite q i v).profile.cap :=
  withPlane_planes h q (Memory.writeByte_wfPlane (h q) hi) q'

/-- Clearing a bit; on a one-plane profile only the black plane is written (R123). -/
theorem clearInk_bufferOk {s : State} (h : s.bufferOk) {q : Plane} {i : Nat} (hi : i < s.profile.cap) (k : Nat)
    (hq : s.profile.planes = 1 → q = .black) : (s.clearInk q i k).bufferOk := by
  refine ⟨fbWrite_planes h.planes _ hi, fun one => ?_, ?_⟩
  · have mono : s.profile.planes = 1 := by simpa [State.clearInk, State.fbWrite] using one
    cases hq mono
    exact h.mono mono
  · rw [singleInk_iff _ (show Plane.black ≠ .accent by decide)]
    intro j l hl
    rw [s.clearInk_bit _ _ _ _ _ _ (h.planes q).1 hl, s.clearInk_bit _ _ _ _ _ _ (h.planes q).1 hl]
    have old := (singleInk_iff s (show Plane.black ≠ .accent by decide)).1 h.ink j l hl
    split <;> split <;> simp_all

/-- A bit set in one of two planes and cleared in the other (R124, R125). -/
theorem setInk_clearInk_bufferOk {s : State} (h : s.bufferOk) (two : s.profile.planes = 2) {q q' : Plane} (hq : q ≠ q')
    {i : Nat} (hi : i < s.profile.cap) (k : Nat) : ((s.setInk q i k).clearInk q' i k).bufferOk := by
  have profile : (s.setInk q i k).profile = s.profile := State.withPlane_profile _ _ _
  have planes (p : Plane) : ((s.setInk q i k).plane p).wfPlane (s.setInk q i k).profile.cap :=
    fbWrite_planes h.planes _ hi p
  refine ⟨fbWrite_planes planes _ (profile ▸ hi), fun one => ?_, ?_⟩
  · rw [State.clearInk, State.fbWrite, State.withPlane_profile, profile] at one
    omega
  · rw [singleInk_iff _ hq]
    intro j l hl
    have old := (singleInk_iff s hq).1 h.ink j l hl
    rw [State.clearInk_bit _ _ _ _ _ _ _ (planes q').1 hl, State.clearInk_bit _ _ _ _ _ _ _ (planes q').1 hl,
      State.setInk_bit _ _ _ _ _ _ _ (h.planes q).1 hl, State.setInk_bit _ _ _ _ _ _ _ (h.planes q).1 hl]
    by_cases here : j = i ∧ l = k
    · simp [here]
    · simpa [here, hq] using old

/-- A bit set in the plane of a one-plane profile (R124, R126). -/
theorem setInk_bufferOk_mono {s : State} (h : s.bufferOk) (one : s.profile.planes = 1) {i : Nat} (hi : i < s.profile.cap)
    (k : Nat) : (s.setInk .black i k).bufferOk :=
  ⟨fbWrite_planes h.planes _ hi, fun _ => h.mono one, singleInk_of_accent_nil (h.mono one)⟩

theorem one_of_not_two {p : Profile} (h : p.wf = true) (not : p.planes ≠ 2) : p.planes = 1 := by
  obtain ⟨-, -, -, planes, -⟩ := Profile.admitted_of_wf h
  exact planes.resolve_right not

/-- Inking a pixel of the buffer (R123 to R126). -/
theorem ink_bufferOk {s : State} (hwf : s.profile.wf = true) (h : s.bufferOk) (c : Color) {i : Nat}
    (hi : i < s.profile.cap) (k : Nat) : (s.ink c i k).bufferOk := by
  have white : (s.inkWhite i k).bufferOk := by
    have black := clearInk_bufferOk h hi k fun _ => rfl
    unfold State.inkWhite
    split
    next two => exact clearInk_bufferOk black hi k fun (one : s.profile.planes = 1) => by omega
    next => exact black
  have black : (s.inkBlack i k).bufferOk := by
    unfold State.inkBlack
    split
    next two => exact setInk_clearInk_bufferOk h two (by decide) hi k
    next not => exact setInk_bufferOk_mono h (one_of_not_two hwf not) hi k
  cases c with
  | white => exact white
  | black => exact black
  | accent =>
    simp only [State.ink, State.inkAccent]
    split
    next two => exact setInk_clearInk_bufferOk h two (by decide) hi k
    next =>
      cases s.profile.accentOnMono with
      | black => exact black
      | white => exact white
      | ignore => exact h
  | reserved => exact h

/-- The buffer byte of a pixel that the buffer holds lies below CAP (R121, R127, R140). -/
theorem pixel_index_lt {s : State} (hwf : s.profile.wf = true) {X Y : Int} {r : Nat} (hX : 0 ≤ X) (hW : X < s.profile.width)
    (hr : s.bufRow Y = some r) : r * s.profile.bpr + (X / 8).toNat < s.profile.cap := by
  have col : (X / 8).toNat < s.profile.bpr := by
    have := Profile.width_eq hwf
    omega
  have row : r + 1 ≤ s.profile.pageHeight := by
    rw [State.bufRow_eq_some] at hr
    split at hr
    next n _ =>
      have := hr.2
      unfold Profile.pageRows at this
      omega
    next => omega
  calc r * s.profile.bpr + (X / 8).toNat < r * s.profile.bpr + s.profile.bpr := by omega
    _ = (r + 1) * s.profile.bpr := by rw [Nat.succ_mul]
    _ ≤ s.profile.pageHeight * s.profile.bpr := Nat.mul_le_mul_right _ row
    _ = s.profile.cap := Profile.pageHeight_mul_bpr hwf

theorem plotPhys_bufferOk {s : State} (hwf : s.profile.wf = true) (h : s.bufferOk) (X Y : Int) (c : Color) :
    (s.plotPhys X Y c).bufferOk := by
  unfold State.plotPhys
  split
  next => exact h
  next inside =>
    split
    next => exact h
    next r hr => exact ink_bufferOk hwf h c (pixel_index_lt hwf (by omega) (by omega) hr) _

theorem plotLogical_bufferOk {s : State} (hwf : s.profile.wf = true) (h : s.bufferOk) (x y : Int) (c : Color) :
    (s.plotLogical x y c).bufferOk := by
  unfold State.plotLogical
  split
  · exact h
  · exact plotPhys_bufferOk hwf h _ _ c

/-- Filling a plane keeps the planes' canonical form. -/
theorem fbFill_planes {s : State} (h : ∀ q, (s.plane q).wfPlane s.profile.cap) (q : Plane) (v : Byte) (q' : Plane) :
    ((s.fbFill q v).plane q').wfPlane (s.fbFill q v).profile.cap :=
  withPlane_planes h q (Memory.filled_wfPlane _ v) q'

/-- Both planes of a two-plane profile filled, one of them blank (R122). -/
theorem fbFill_both_bufferOk {s : State} (h : s.bufferOk) (two : s.profile.planes = 2) {v w : Byte} (hvw : v &&& w = 0x00#8) :
    ((s.fbFill .black v).fbFill .accent w).bufferOk := by
  refine ⟨fbFill_planes (fbFill_planes h.planes .black v) .accent w, fun (one : s.profile.planes = 1) => by omega,
    fun i => ?_⟩
  rw [State.fbRead_fbFill_other _ _ _ _ _ (by decide), State.fbRead_fbFill_self, State.fbRead_fbFill_self]
  show (if i < s.profile.cap then v else blankByte) &&& (if i < s.profile.cap then w else blankByte) = 0x00#8
  split
  · exact hvw
  · rfl

/-- The plane of a one-plane profile filled (R122). -/
theorem fbFill_bufferOk_mono {s : State} (h : s.bufferOk) (one : s.profile.planes = 1) (v : Byte) :
    (s.fbFill .black v).bufferOk :=
  ⟨fbFill_planes h.planes .black v, fun _ => h.mono one, singleInk_of_accent_nil (h.mono one)⟩

theorem fillWith_bufferOk {s : State} (hwf : s.profile.wf = true) (h : s.bufferOk) (c : Color) : (s.fillWith c).bufferOk := by
  cases c with
  | white => exact clearFB_bufferOk s
  | black =>
    simp only [State.fillWith]
    split
    next two => exact fbFill_both_bufferOk h two (by decide)
    next not => exact fbFill_bufferOk_mono h (one_of_not_two hwf not) _
  | accent =>
    simp only [State.fillWith]
    split
    next two => exact fbFill_both_bufferOk h two (by decide)
    next not =>
      have one := one_of_not_two hwf not
      cases s.profile.accentOnMono with
      | black => exact fbFill_bufferOk_mono h one _
      | white => exact fbFill_bufferOk_mono h one _
      | ignore => exact h
  | reserved => exact h

theorem leavePage_bufferOk {s : State} (h : s.bufferOk) (n : Nat) : (s.leavePage n).bufferOk := by
  have cleared {t u : State} (hp : u.profile = t.profile) (hb : u.fbBlack = []) (ha : u.fbAccent = []) : u.bufferOk :=
    (clearFB_bufferOk t).congr hp hb ha
  unfold State.leavePage
  split
  · exact cleared (t := s) rfl rfl rfl
  · split
    · exact cleared (t := s) rfl rfl rfl
    · have refreshed := finalRefresh_frame s
      exact h.congr (refreshed.field State.profile) (refreshed.field State.fbBlack) (refreshed.field State.fbAccent)

theorem advance_bufferOk {s : State} (h : s.bufferOk) : s.advance.bufferOk := by
  unfold State.advance
  split
  · exact h.congr rfl rfl rfl
  next n _ =>
    have streamed := (streamPage_panelStep s n).frame
    exact leavePage_bufferOk (h.congr (streamed.field State.profile) (streamed.field State.fbBlack)
      (streamed.field State.fbAccent)) n

/-- Every command keeps the frame buffer's part (R48, R130). -/
theorem commandEffect_bufferOk {s : State} (hwf : s.profile.wf = true) (h : s.bufferOk) (i : Instr) :
    (commandEffect i s).bufferOk := by
  have writes := commandEffect_frame i s
  cases i with
  | init => exact (clearFB_bufferOk s).congr rfl rfl rfl
  | fill c => exact fillWith_bufferOk hwf h c
  | setPixel c => exact plotLogical_bufferOk hwf h _ _ c
  | setPixelPhys c => exact plotPhys_bufferOk hwf h _ _ c
  | beginFrame => exact (clearFB_bufferOk s).congr (writes.field State.profile) rfl rfl
  | advancePage => exact advance_bufferOk h
  | _ =>
    generalize commandEffect _ s = t at writes ⊢
    exact h.congr (writes.field State.profile) (writes.field State.fbBlack) (writes.field State.fbAccent)

/-! ## The whole invariant -/

theorem State.Inv.bufferOk {s : State} (h : s.Inv) : s.bufferOk where
  planes q := by
    cases q with
    | black => exact h.memory.black
    | accent => exact h.memory.accent
  mono := h.memory.mono
  ink := h.ink

theorem State.memoryOk.of_bufferOk {s : State} (h : s.bufferOk) (hd : s.srcData.wfSource) (hp : s.srcProg.wfSource) :
    s.memoryOk := ⟨h.planes .black, h.planes .accent, h.mono, hd, hp⟩

/-- `s` with the fields that the invariant does not speak of, taken from `t`. -/
def State.freeFrom (s t : State) : State :=
  { s with
    rot := t.rot, mirror := t.mirror, cont := t.cont, busy := t.busy, lastBusyUs := t.lastBusyUs, diag := t.diag, op := t.op,
    argXY := t.argXY, argWH := t.argWH, argSrc0 := t.argSrc0, argSrc1 := t.argSrc1, wire := t.wire, raced := t.raced,
    polls := t.polls, draws := t.draws, inputs := t.inputs, readData := t.readData }

/-- A change of such fields keeps the invariant. -/
theorem State.Inv.of_frame {s t : State} (h : s.Inv) (k : Frame State.freeFrom s t) : t.Inv where
  profile_wf := (k.field fun u => u.profile.wf).trans h.profile_wf
  pager := h.pager.congr (k.field State.profile) (k.field State.cursor) (k.field State.phase) (k.field State.inited)
  windows := h.windows.congr (k.field State.profile) (k.field State.win) (k.field State.passWin) (k.field State.winMode)
    (k.field State.passPartial)
  power := (PanelSound.of_eq (k.field State.pins) (k.field State.pwr) (k.field State.needReset)).power h.power
  pins := (PanelSound.of_eq (k.field State.pins) (k.field State.pwr) (k.field State.needReset)).pins h.pins
  memory := .of_bufferOk (h.bufferOk.congr (k.field State.profile) (k.field State.fbBlack) (k.field State.fbAccent))
    (by rw [k.field State.srcData]; exact h.memory.data) (by rw [k.field State.srcProg]; exact h.memory.prog)
  ink := (h.bufferOk.congr (k.field State.profile) (k.field State.fbBlack) (k.field State.fbAccent)).ink

/-- No command writes a bitmap source (R60). -/
theorem commandWrites_sources (i : Instr) (s t : State) :
    (commandWrites i s t).srcData = s.srcData ∧ (commandWrites i s t).srcProg = s.srcProg := by
  cases i <;> exact ⟨rfl, rfl⟩

/-- An accepted command keeps the invariant. -/
theorem State.Inv.commandEffect {s : State} (h : s.Inv) {i : Instr} (accepted : s.refusal i = none) :
    (commandEffect i s).Inv := by
  have writes := commandEffect_frame i s
  have profile : (Machine.commandEffect i s).profile = s.profile := (HistoryKept.commandEffect i s).profile
  obtain ⟨data, prog⟩ := commandWrites_sources i s (Machine.commandEffect i s)
  have sound := PanelSound.commandEffect i s
  have buffer := commandEffect_bufferOk h.profile_wf h.bufferOk i
  exact {
    profile_wf := profile ▸ h.profile_wf
    pager := commandEffect_pagerOk h.profile_wf h.pager accepted
    windows := commandEffect_windowsOk h.profile_wf h.windows accepted
    power := sound.power h.power
    pins := sound.pins h.pins
    memory := .of_bufferOk buffer (by rw [writes.field State.srcData, data]; exact h.memory.data)
      (by rw [writes.field State.srcProg, prog]; exact h.memory.prog)
    ink := buffer.ink }

theorem State.Inv.exec {s t : State} (h : s.Inv) {i : Instr} (answer : exec i s = .next t) : t.Inv := by
  rcases exec_inversion answer with ⟨accepted, rfl⟩ | ⟨d, -, rfl⟩
  · exact h.commandEffect accepted
  · exact h.of_frame rfl

theorem State.Inv.runLatched {s t : State} (h : s.Inv) (answer : s.runLatched = .next t) : t.Inv := by
  unfold State.runLatched at answer
  split at answer
  · exact h.exec answer
  · cases answer
    exact h.of_frame rfl

theorem State.Inv.engineMove {s t : State} (h : s.Inv) (answer : s.engineMove = .next t) : t.Inv := by
  unfold State.engineMove at answer
  split at answer
  · cases run : s.runLatched with
    | next u =>
      rw [run] at answer
      cases answer
      exact (h.runLatched run).of_frame rfl
    | fault r => exact nomatch r
    | refused r =>
      rw [run] at answer
      cases answer
  · cases answer
    exact h

theorem wfSource_nil : Memory.wfSource [] := by simp [Memory.wfSource]

/-- The reset state of an admitted profile meets the invariant (R50). -/
theorem resetFor_inv {p : Profile} (h : p.wf = true) : (State.resetFor p).Inv where
  profile_wf := h
  pager := .of_noPass rfl rfl
  windows := {
    win_in := by constructor <;> simp [State.resetFor]
    passWin_in := fullRect_inPanel h
    full_pass _ := rfl
    partial_win := nofun
    partial_pass := nofun }
  power := fun ⟨on, _⟩ => nomatch on
  pins := ⟨rfl, rfl⟩
  memory := ⟨wfPlane_nil _, wfPlane_nil _, fun _ => rfl, wfSource_nil, wfSource_nil⟩
  ink := singleInk_of_accent_nil rfl

/-- Other source bytes in canonical form keep the invariant. -/
theorem State.Inv.withSources {s : State} (h : s.Inv) {d p : Memory} (hd : d.wfSource) (hp : p.wfSource) :
    { s with srcData := d, srcProg := p }.Inv where
  profile_wf := h.profile_wf
  pager := h.pager.congr rfl rfl rfl rfl
  windows := h.windows.congr rfl rfl rfl rfl rfl
  power := h.power
  pins := h.pins
  memory := ⟨h.memory.black, h.memory.accent, h.memory.mono, hd, hp⟩
  ink := h.ink

theorem State.Inv.hardReset {s : State} (h : s.Inv) (n : Nat) : (s.hardReset n).Inv :=
  ((resetFor_inv h.profile_wf).withSources h.memory.data h.memory.prog).of_frame rfl

theorem State.Inv.storeSource {s : State} (h : s.Inv) (sp : Space) (addr : Word) (b : Byte) :
    (s.storeSource sp addr b).Inv := by
  cases sp with
  | data => exact (h.withSources (Memory.insert_wfSource h.memory.data addr.isLt) h.memory.prog).of_frame rfl
  | prog => exact (h.withSources h.memory.data (Memory.insert_wfSource h.memory.prog addr.isLt)).of_frame rfl

theorem State.Inv.busWrite {s : State} (h : s.Inv) (width off : Nat) (v : Word) : (s.busWrite width off v).Inv := by
  unfold State.busWrite
  split
  · split
    next r _ =>
      cases r with
      | cmd =>
        simp only [State.writeReg, State.writeCmd]
        split <;> exact h.of_frame rfl
      | _ => exact h.of_frame rfl
    next => exact h
  · exact h

theorem State.Inv.accept {s t : State} (h : s.Inv) {i : Input} (answer : s.accept i = .next t) : t.Inv := by
  cases i with
  | hostWrite width off v => cases answer; exact h.busWrite width off v
  | hostRead width off => cases answer; exact h.of_frame rfl
  | hostStore sp addr b => cases answer; exact h.storeSource sp addr b
  | engineTurn => exact h.engineMove answer
  | hardReset n => cases answer; exact h.hardReset n

/-- Settles O54: the reset state, part by part; the profile of `State.reset` is admitted. -/
theorem resetMeetsTheInvariant : Obligations.ResetMeetsTheInvariant :=
  ⟨fun _ h => resetFor_inv h, resetFor_inv (by decide)⟩

/-- Settles O55: the engine's turn keeps the invariant command by command; the other moves write nothing it speaks of, or reset
the engine. -/
theorem everyStepKeepsTheInvariant : Obligations.EveryStepKeepsTheInvariant := by
  intro s t h answer
  unfold step State.move at answer
  split at answer
  next => exact h.engineMove answer
  next rest _ => exact (h.of_frame (t := { s with inputs := rest }) rfl).accept answer

end Sys2Proof.Machine
end

section
/-!
PROOFS. The statement of 20_memory.md: what a host store changes of the bytes that the engine reads (R64, R75).
-/

namespace Sys2Proof.Machine

/-! ## A source space after it is replaced -/

@[simp] theorem State.source_withSource_self (s : State) (sp : Space) (m : Memory) : (s.withSource sp m).source sp = m := by
  cases sp <;> rfl

theorem State.source_withSource_other (s : State) {sp sp' : Space} (m : Memory) (h : sp' ≠ sp) :
    (s.withSource sp m).source sp' = s.source sp' := by
  cases sp with
  | data =>
    cases sp' with
    | data => exact absurd rfl h
    | prog => rfl
  | prog =>
    cases sp' with
    | data => rfl
    | prog => exact absurd rfl h

/-! ## What a read answers -/

/-- A racing byte is a free value (R75; log 7). -/
theorem State.srcRead_of_raced {s : State} {sp : Space} {addr : Word} (q : Plane) (h : (sp, addr.toNat) ∈ s.raced) :
    s.srcRead q sp addr = Config.freeSrcByte s.draws sp q addr := by
  simp [State.srcRead, h]

/-- What a read looks at: the draw number, whether the byte is a racing one, and the provisioned byte. -/
theorem State.srcRead_congr {s t : State} {sp : Space} {addr : Word} (q : Plane) (draws : t.draws = s.draws)
    (raced : (sp, addr.toNat) ∈ t.raced ↔ (sp, addr.toNat) ∈ s.raced)
    (lookup : (t.source sp).lookup addr.toNat = (s.source sp).lookup addr.toNat) : t.srcRead q sp addr = s.srcRead q sp addr := by
  simp only [State.srcRead, List.contains_iff_mem, draws, raced, lookup]

/-! ## A host store -/

section
variable (s : State) (sp : Space) (addr : Word) (b : Byte)

theorem State.storeSource_frame :
    s.storeSource sp addr b =
      { s with
        srcData := (s.storeSource sp addr b).srcData
        srcProg := (s.storeSource sp addr b).srcProg
        raced := (s.storeSource sp addr b).raced } := by
  cases sp <;> rfl

@[simp] theorem State.storeSource_draws : (s.storeSource sp addr b).draws = s.draws := s.withSource_draws sp _

theorem State.storeSource_raced :
    (s.storeSource sp addr b).raced = if s.busy then (sp, addr.toNat) :: s.raced else s.raced := rfl

theorem State.storeSource_raced_of_idle (h : s.busy = false) : (s.storeSource sp addr b).raced = s.raced := by
  simp [s.storeSource_raced, h]

theorem State.storeSource_raced_of_busy (h : s.busy = true) :
    (s.storeSource sp addr b).raced = (sp, addr.toNat) :: s.raced := by
  simp [s.storeSource_raced, h]

theorem State.storeSource_source (sp' : Space) :
    (s.storeSource sp addr b).source sp' = (s.withSource sp ((s.source sp).insert addr.toNat b)).source sp' := by
  cases sp' <;> rfl

theorem State.storeSource_lookup_self : ((s.storeSource sp addr b).source sp).lookup addr.toNat = some b := by
  rw [s.storeSource_source, s.source_withSource_self, Memory.lookup_insert_self]

variable {sp addr} {sp' : Space} {addr' : Word}

theorem State.storeSource_lookup_other (h : (sp', addr') ≠ (sp, addr)) :
    ((s.storeSource sp addr b).source sp').lookup addr'.toNat = (s.source sp').lookup addr'.toNat := by
  rw [s.storeSource_source]
  by_cases space : sp' = sp
  · subst space
    have other : addr'.toNat ≠ addr.toNat := fun e => h (by rw [BitVec.eq_of_toNat_eq e])
    rw [s.source_withSource_self, Memory.lookup_insert_other other]
  · rw [s.source_withSource_other _ space]

theorem State.storeSource_raced_other (h : (sp', addr') ≠ (sp, addr)) :
    (sp', addr'.toNat) ∈ (s.storeSource sp addr b).raced ↔ (sp', addr'.toNat) ∈ s.raced := by
  have other : (sp', addr'.toNat) ≠ (sp, addr.toNat) := fun e => by
    obtain ⟨space, address⟩ := Prod.mk.inj e
    exact h (by rw [space, BitVec.eq_of_toNat_eq address])
  rw [s.storeSource_raced]
  split <;> simp [other]

theorem State.srcRead_storeSource_other (q : Plane) (h : (sp', addr') ≠ (sp, addr)) :
    (s.storeSource sp addr b).srcRead q sp' addr' = s.srcRead q sp' addr' :=
  State.srcRead_congr q (s.storeSource_draws ..) (s.storeSource_raced_other b h) (s.storeSource_lookup_other b h)

end

/-- Settles O51: the step is `storeSource`. It changes what is read at its own address only, and makes that byte a racing
one if a command executes. -/
theorem storedSourceBytesAreRead : Obligations.StoredSourceBytesAreRead := by
  intro s sp addr b rest lined
  refine ⟨_, step_of_input lined, State.storeSource_frame .., fun q _ _ other => State.srcRead_storeSource_other _ b q other,
    fun idle => ?_, fun busy q => ?_⟩
  · have kept := State.storeSource_raced_of_idle { s with inputs := rest } sp addr b idle
    exact ⟨kept, fun unraced q => State.srcRead_of_lookup q (by rwa [kept]) (State.storeSource_lookup_self ..)⟩
  · have racing := State.storeSource_raced_of_busy { s with inputs := rest } sp addr b busy
    rw [State.srcRead_of_raced q (by rw [racing]; exact List.mem_cons_self), State.storeSource_draws]

end Sys2Proof.Machine
end

section
/-!
PROOFS. The statements of 30_encoding.md: the decoder and the encoder (R82 to R94), and the reserved colour code (R89).

A word decodes to a command just when its named bits are the command's encoding (`decode_eq_ok_iff`). Both sides are
cut into the fields of the command's format (R83) and compared field by field.
-/

namespace Sys2Proof

/-! ## Words under a mask, field by field -/

/-- A masked bit string of two parts is compared part by part. -/
theorem extractLsb'_and_append_eq_append_iff {w m n : Nat} (v : BitVec w) (start : Nat) (mask₁ x₁ : BitVec m)
    (mask₂ x₂ : BitVec n) :
    v.extractLsb' start (m + n) &&& (mask₁ ++ mask₂) = x₁ ++ x₂ ↔
      v.extractLsb' (start + n) m &&& mask₁ = x₁ ∧ v.extractLsb' start n &&& mask₂ = x₂ := by
  rw [← BitVec.extractLsb'_append_extractLsb'_eq_extractLsb' (x := v) (rfl : start + n = start + n), BitVec.and_append]
  constructor
  · intro h
    constructor
    · simpa only [BitVec.extractLsb'_append_eq_left] using congrArg (BitVec.extractLsb' n m) h
    · simpa only [BitVec.extractLsb'_append_eq_right] using congrArg (BitVec.extractLsb' 0 n) h
  · rintro ⟨rfl, rfl⟩
    rfl

/-- A one-bit field is that bit of the word. -/
theorem extractLsb'_one_eq_ofBool_iff (v : Word) (k : Nat) (b : Bool) :
    v.extractLsb' k 1 = BitVec.ofBool b ↔ v.getLsbD k = b := by
  have field : v.extractLsb' k 1 = BitVec.ofBool (v.getLsbD k) := by
    ext j bound
    obtain rfl : j = 0 := by omega
    simp
  rw [field, BitVec.ofBool_eq_iff_eq]

/-! ## The fields of each format (R83 to R86) -/

theorem colorOfBits_eq_iff (b : BitVec 2) (c : Color) : colorOfBits b = c ↔ b = colorBits c := by
  revert b
  cases c <;> decide

theorem rotationOfBits_eq_iff (b : BitVec 2) (r : Rotation) : rotationOfBits b = r ↔ b = rotationBits r := by
  revert b
  cases r <;> decide

/-- Format C names CMD[9:8]. -/
theorem colorField_eq_iff (v : Word) (c : Color) :
    colorField v = c ↔ v.extractLsb' 8 24 &&& (0#22 ++ BitVec.allOnes 2) = 0#22 ++ colorBits c := by
  rw [extractLsb'_and_append_eq_append_iff (m := 22) (n := 2) v 8, BitVec.and_zero, BitVec.and_allOnes]
  simp only [colorField, colorOfBits_eq_iff, true_and]

/-- Format T names CMD[9:8] and CMD[10]. -/
theorem rotationFields_eq_iff (v : Word) (r : Rotation) (m : Bool) :
    rotField v = r ∧ mirrorField v = m ↔
      v.extractLsb' 8 24 &&& (0#21 ++ BitVec.allOnes 1 ++ BitVec.allOnes 2) =
        0#21 ++ BitVec.ofBool m ++ rotationBits r := by
  rw [extractLsb'_and_append_eq_append_iff (m := 22) (n := 2) v 8,
    extractLsb'_and_append_eq_append_iff (m := 21) (n := 1) v 10]
  simp only [BitVec.and_zero, BitVec.and_allOnes, true_and, extractLsb'_one_eq_ofBool_iff, rotField, mirrorField,
    rotationOfBits_eq_iff, and_comm]

/-- Format P names CMD[23:16] and CMD[31:24], and leaves CMD[15:8] free. -/
theorem patternFields_eq_iff (v : Word) (b a : Byte) :
    bpatField v = b ∧ apatField v = a ↔
      v.extractLsb' 8 24 &&& (BitVec.allOnes 8 ++ BitVec.allOnes 8 ++ 0#8) = a ++ b ++ 0#8 := by
  rw [extractLsb'_and_append_eq_append_iff (m := 16) (n := 8) v 8,
    extractLsb'_and_append_eq_append_iff (m := 8) (n := 8) v 16]
  simp only [BitVec.and_zero, BitVec.and_allOnes, and_true, bpatField, apatField]
  exact and_comm

/-- Format I names CMD[11:8], one flag each. -/
theorem imageFlagsField_eq_iff (v : Word) (f : ImageFlags) :
    imageFlagsField v = f ↔
      v.extractLsb' 8 24 &&&
          (0#20 ++ (BitVec.allOnes 1 ++ BitVec.allOnes 1 ++ BitVec.allOnes 1 ++ BitVec.allOnes 1)) =
        0#20 ++ imageFlagsBits f := by
  obtain ⟨invert, mirrorY, prog, hasAccent⟩ := f
  rw [imageFlagsBits, extractLsb'_and_append_eq_append_iff (m := 20) (n := 4) v 8,
    extractLsb'_and_append_eq_append_iff (m := 3) (n := 1) v 8,
    extractLsb'_and_append_eq_append_iff (m := 2) (n := 1) v 9,
    extractLsb'_and_append_eq_append_iff (m := 1) (n := 1) v 10]
  simp only [BitVec.and_zero, BitVec.and_allOnes, true_and, extractLsb'_one_eq_ofBool_iff, imageFlagsField,
    ImageFlags.mk.injEq]
  tauto

/-! ## The decoder -/

/-- The fields of the command, read off the word by its format (R83). -/
def Instr.HasFields (v : Word) : Instr → Prop
  | .setRotation r m => rotField v = r ∧ mirrorField v = m
  | .fill c | .setPixel c | .setPixelPhys c => colorField v = c
  | .clearPanel b a => bpatField v = b ∧ apatField v = a
  | .writeImage f | .drawImage f => imageFlagsField v = f
  | .init | .setFullWindow | .setPartialWindow | .beginFrame | .advancePage | .powerOff => True

/-- One row of the decoder's table: its OP stands in the word, or a later row answers. -/
theorem eq_of_ite_eq_ok {c : Prop} [Decidable c] {row i : Instr} {later : Except DecodeError Instr}
    (h : (if c then .ok row else later) = .ok i) : (c ∧ row = i) ∨ later = .ok i := by
  split at h
  · exact .inl ⟨‹c›, Except.ok.inj h⟩
  · exact .inr h

/-- The decoder selects the command by OP alone and reads the fields of its format (R87). -/
theorem decode_eq_ok_iff_opcode_and_fields (v : Word) (i : Instr) :
    decode v = .ok i ↔ opField v = i.opcode ∧ i.HasFields v := by
  constructor
  · intro h
    rw [decode] at h
    iterate 13
      obtain ⟨op, rfl⟩ | h := eq_of_ite_eq_ok h
      · exact ⟨op, by simp only [Instr.HasFields, and_self]⟩
    cases h
  · rintro ⟨op, fields⟩
    cases i with
    | init | setFullWindow | setPartialWindow | beginFrame | advancePage | powerOff =>
      simp [decode, op, Instr.opcode]
    | setRotation r m | clearPanel b a =>
      obtain ⟨rfl, rfl⟩ := fields
      simp [decode, op, Instr.opcode]
    | fill c | setPixel c | setPixelPhys c | writeImage f | drawImage f =>
      obtain rfl := fields
      simp [decode, op, Instr.opcode]

/-- The bits [31:8] that a command's format names (R83), part by part as `Instr.fieldBits` is put together. -/
def Instr.fieldMask : Instr → BitVec 24
  | .setRotation _ _ => 0#21 ++ BitVec.allOnes 1 ++ BitVec.allOnes 2
  | .fill _ | .setPixel _ | .setPixelPhys _ => 0#22 ++ BitVec.allOnes 2
  | .clearPanel _ _ => BitVec.allOnes 8 ++ BitVec.allOnes 8 ++ 0#8
  | .writeImage _ | .drawImage _ =>
    0#20 ++ (BitVec.allOnes 1 ++ BitVec.allOnes 1 ++ BitVec.allOnes 1 ++ BitVec.allOnes 1)
  | .init | .setFullWindow | .setPartialWindow | .beginFrame | .advancePage | .powerOff => 0#24

theorem namedBits_eq_fieldMask_append (i : Instr) : Machine.namedBits i = i.fieldMask ++ BitVec.allOnes 8 := by
  cases i <;> simp only [Machine.namedBits, Instr.fieldMask] <;> decide

/-- A word carries a command's fields when they stand under the mask of its format. -/
theorem Instr.hasFields_iff (v : Word) (i : Instr) :
    i.HasFields v ↔ v.extractLsb' 8 24 &&& i.fieldMask = i.fieldBits := by
  cases i with
  | setRotation r m => exact rotationFields_eq_iff v r m
  | fill c => exact colorField_eq_iff v c
  | setPixel c => exact colorField_eq_iff v c
  | setPixelPhys c => exact colorField_eq_iff v c
  | clearPanel b a => exact patternFields_eq_iff v b a
  | writeImage f => exact imageFlagsField_eq_iff v f
  | drawImage f => exact imageFlagsField_eq_iff v f
  | _ => simp [Instr.HasFields, Instr.fieldMask, Instr.fieldBits]

/-- The named bits of a word are the encoding when OP and the fields are. -/
theorem and_namedBits_eq_encode_iff (v : Word) (i : Instr) :
    v &&& Machine.namedBits i = encode i ↔
      v.extractLsb' 8 24 &&& i.fieldMask = i.fieldBits ∧ opField v = i.opcode := by
  have parts := extractLsb'_and_append_eq_append_iff v 0 i.fieldMask i.fieldBits (BitVec.allOnes 8) i.opcode
  rwa [BitVec.extractLsb'_eq_self, ← namedBits_eq_fieldMask_append, BitVec.and_allOnes] at parts

/-- A word decodes to a command just when its named bits are the command's encoding (R82, R83, R87). -/
theorem decode_eq_ok_iff (v : Word) (i : Instr) : decode v = .ok i ↔ v &&& Machine.namedBits i = encode i := by
  rw [decode_eq_ok_iff_opcode_and_fields, Instr.hasFields_iff, and_namedBits_eq_encode_iff, and_comm]

/-! ## The encoder -/

/-- The encoder writes 0 in every bit that the format does not name (R92). -/
theorem encode_and_namedBits (i : Instr) : encode i &&& Machine.namedBits i = encode i := by
  have fields : i.fieldBits &&& i.fieldMask = i.fieldBits := by
    cases i with
    | setRotation r m => cases r <;> cases m <;> rfl
    | fill c | setPixel c | setPixelPhys c => cases c <;> rfl
    | clearPanel b a =>
      rw [Instr.fieldMask, Instr.fieldBits, BitVec.and_append (w := 16) (v := 8), BitVec.and_append (w := 8) (v := 8),
        BitVec.and_allOnes, BitVec.and_allOnes, BitVec.and_zero]
    | writeImage f | drawImage f =>
      rw [Instr.fieldMask, Instr.fieldBits, BitVec.and_append (w := 20) (v := 4)]
      exact congrArg _ BitVec.and_allOnes
    | _ => rfl
  rw [namedBits_eq_fieldMask_append, encode, BitVec.and_append, fields, BitVec.and_allOnes]

theorem decode_encode (i : Instr) : decode (encode i) = .ok i :=
  (decode_eq_ok_iff _ i).2 (encode_and_namedBits i)

/-- Settles O2. -/
theorem decodeOfEncodeIsTheCommand : Obligations.DecodeOfEncodeIsTheCommand := decode_encode

/-- Settles O3: what decides whether a word decodes to `i` is its bits under the mask of `i`. -/
theorem onlyNamedBitsMatter : Obligations.OnlyNamedBitsMatter := by
  intro v i decoded
  have named : v &&& Machine.namedBits i = encode i := (decode_eq_ok_iff v i).1 decoded
  exact ⟨named, fun u same => (decode_eq_ok_iff u i).2 (same.trans named)⟩

/-- A word that the encoder writes for a command decodes to it. -/
theorem decode_of_encode_eq {v : Word} {i : Instr} (written : encode i = v) : decode v = .ok i ∧ encode i = v :=
  ⟨written ▸ decode_encode i, written⟩

/-- Settles O1: each word of R94 is what the encoder writes for its command. -/
theorem specExampleWordsDecode : Obligations.SpecExampleWordsDecode :=
  ⟨decode_of_encode_eq rfl, decode_of_encode_eq rfl, decode_of_encode_eq rfl, decode_of_encode_eq rfl,
    decode_of_encode_eq rfl, decode_of_encode_eq rfl⟩

end Sys2Proof

namespace Sys2Proof.Machine

/-! ## The reserved colour -/

/-- After INIT the reserved colour is the first check of R285 that holds. -/
theorem State.refusal_reservedColor {s : State} {i : Instr} (inited : s.inited = true)
    (reserved : i.color? = some .reserved) : s.refusal i = some .badcmd := by
  simp [State.refusal, inited, reserved]

/-- Settles O9: each of the three commands is refused with BADCMD. -/
theorem reservedColourOnlySetsBadcmd : Obligations.ReservedColourOnlySetsBadcmd := by
  intro s i inited command
  have reserved : i.color? = some .reserved := by
    rcases command with rfl | rfl | rfl <;> rfl
  rw [exec_eq_perform, State.perform_of_refused _ (State.refusal_reservedColor inited reserved)]
  rfl

end Sys2Proof.Machine
end

section
/-!
PROOFS. The statements of 40_geometry.md: the transform of points and rectangles, and SET_ROTATION (R100 to R106).
-/

namespace Sys2Proof.Machine

/-! ## Mirroring and rotation of points -/

/-- Mirroring is its own inverse (R105 (e)). -/
theorem mirrorPoint_involutive (p : Profile) (m : Bool) (r : Rotation) : Function.Involutive (mirrorPoint p m r) := by
  intro pt
  cases m with
  | false => rfl
  | true => simp [mirrorPoint]

/-- The inverses that R105 (e) lists. -/
def unrotatePoint (p : Profile) : Rotation → Int × Int → Int × Int
  | .r0, pt => pt
  | .r1, pt => (pt.2, p.width - 1 - pt.1)
  | .r2, pt => (p.width - 1 - pt.1, p.height - 1 - pt.2)
  | .r3, pt => (p.height - 1 - pt.2, pt.1)

theorem unrotatePoint_leftInverse (p : Profile) (r : Rotation) :
    Function.LeftInverse (unrotatePoint p r) (rotatePoint p r) := by
  intro pt
  cases r <;> simp [unrotatePoint, rotatePoint]

theorem unrotatePoint_rightInverse (p : Profile) (r : Rotation) :
    Function.RightInverse (unrotatePoint p r) (rotatePoint p r) := by
  intro pt
  cases r <;> simp [unrotatePoint, rotatePoint]

theorem rotatePoint_bijective (p : Profile) (r : Rotation) : Function.Bijective (rotatePoint p r) :=
  Function.bijective_iff_has_inverse.2 ⟨_, unrotatePoint_leftInverse p r, unrotatePoint_rightInverse p r⟩

theorem transformPoint_bijective (p : Profile) (r : Rotation) (m : Bool) : Function.Bijective (transformPoint p r m) :=
  (rotatePoint_bijective p r).comp (mirrorPoint_involutive p m r).bijective

/-! ## Rectangles and their points -/

/-- A point lies in a rectangle exactly when the mirrored point lies in the mirrored rectangle (R101, R103). -/
theorem mirrorRect_has_mirrorPoint (p : Profile) (m : Bool) (r : Rotation) (R : Rect) (pt : Int × Int) :
    (mirrorRect p m r R).has (mirrorPoint p m r pt).1 (mirrorPoint p m r pt).2 ↔ R.has pt.1 pt.2 := by
  cases m with
  | false => rfl
  | true =>
    simp only [mirrorRect, mirrorPoint, Rect.has, if_true]
    omega

/-- A point lies in a rectangle exactly when the rotated point lies in the rotated rectangle (R102, R104). -/
theorem rotateRect_has_rotatePoint (p : Profile) (r : Rotation) (R : Rect) (pt : Int × Int) :
    (rotateRect p r R).has (rotatePoint p r pt).1 (rotatePoint p r pt).2 ↔ R.has pt.1 pt.2 := by
  cases r <;> simp only [rotateRect, rotatePoint, Rect.has] <;> omega

theorem transformRect_has_transformPoint (p : Profile) (r : Rotation) (m : Bool) (R : Rect) (pt : Int × Int) :
    (transformRect p r m R).has (transformPoint p r m pt).1 (transformPoint p r m pt).2 ↔ R.has pt.1 pt.2 :=
  (rotateRect_has_rotatePoint p r _ _).trans (mirrorRect_has_mirrorPoint p m r R pt)

/-- The logical rectangle (R100). -/
def logicalRect (p : Profile) (r : Rotation) : Rect := ⟨0, 0, logicalWidth p r, logicalHeight p r⟩

/-- Mirroring keeps the logical rectangle (R103). -/
theorem mirrorRect_logicalRect (p : Profile) (r : Rotation) (m : Bool) :
    mirrorRect p m r (logicalRect p r) = logicalRect p r := by
  cases m with
  | false => rfl
  | true => simp [mirrorRect, logicalRect]

/-- The transform takes the logical rectangle onto the panel (R105 (a)). -/
theorem transformRect_logicalRect (p : Profile) (r : Rotation) (m : Bool) :
    transformRect p r m (logicalRect p r) = fullRect p := by
  rw [transformRect, mirrorRect_logicalRect]
  cases r <;> simp [rotateRect, logicalRect, logicalWidth, logicalHeight, fullRect]

theorem Rect.has_origin_iff (w h X Y : Int) : (⟨0, 0, w, h⟩ : Rect).has X Y ↔ 0 ≤ X ∧ X < w ∧ 0 ≤ Y ∧ Y < h := by
  simp only [Rect.has, Int.zero_add]

/-- Settles O26: mirroring and rotation have inverses, and the rectangle transform takes the logical rectangle to the panel. -/
theorem transformIsABijection : Obligations.TransformIsABijection := by
  intro p r m
  refine ⟨transformPoint_bijective p r m, fun x y => ?_⟩
  have image := transformRect_has_transformPoint p r m (logicalRect p r) (x, y)
  rw [transformRect_logicalRect, logicalRect, fullRect, Rect.has_origin_iff, Rect.has_origin_iff] at image
  exact image.symm

/-- Settles O27: every point is the image of one point, and that one lies in the rectangle exactly when its image lies in the
transformed one. -/
theorem rectTransformIsThePointImage : Obligations.RectTransformIsThePointImage := by
  intro p r m R _ _ X Y
  constructor
  · intro inImage
    obtain ⟨⟨x, y⟩, image⟩ := (transformPoint_bijective p r m).surjective (X, Y)
    refine ⟨x, y, (transformRect_has_transformPoint p r m R (x, y)).1 ?_, image⟩
    rwa [image]
  · rintro ⟨x, y, inside, image⟩
    have inImage := (transformRect_has_transformPoint p r m R (x, y)).2 inside
    rwa [image] at inImage

/-! ## The transform by the rules, and compositions -/

theorem transformPoint_eq_byRule (p : Profile) (r : Rotation) (m : Bool) (pt : Int × Int) :
    transformPoint p r m pt = pointByRule p r m pt.1 pt.2 := by
  cases m <;> cases r <;> rfl

/-- The rotation by a half turn more, `r + 2` (R105 (c)). -/
def halfTurn : Rotation → Rotation
  | .r0 => .r2
  | .r1 => .r3
  | .r2 => .r0
  | .r3 => .r1

theorem mirrorPoint_halfTurn (p : Profile) (m : Bool) (r : Rotation) :
    mirrorPoint p m (halfTurn r) = mirrorPoint p m r := by
  cases r <;> rfl

/-- Rotation 2 after a rotation is the half turn more, on every panel. -/
theorem rotatePoint_r2_rotatePoint (p : Profile) (r : Rotation) (pt : Int × Int) :
    rotatePoint p .r2 (rotatePoint p r pt) = rotatePoint p (halfTurn r) pt := by
  cases r <;> simp [rotatePoint, halfTurn]

theorem transformPoint_halfTurn (p : Profile) (r : Rotation) (m : Bool) (pt : Int × Int) :
    transformPoint p (halfTurn r) m pt = rotatePoint p .r2 (transformPoint p r m pt) := by
  rw [transformPoint, mirrorPoint_halfTurn, ← rotatePoint_r2_rotatePoint, transformPoint]

/-- On a square panel rotation 3 is the inverse of rotation 1 (R105 (d)). -/
theorem rotatePoint_r3_of_square {p : Profile} (square : p.width = p.height) : rotatePoint p .r3 = unrotatePoint p .r1 := by
  funext pt
  simp only [rotatePoint, unrotatePoint, square]

/-- Settles O28: rotation 2 adds a half turn, and the inverses are those of the bijection. -/
theorem rotationsComposeAsStated : Obligations.RotationsComposeAsStated := by
  intro p m pt
  refine ⟨fun r => ⟨transformPoint_eq_byRule p r m pt, transformPoint_eq_byRule p r false pt⟩, fun a b pair => ?_,
    fun square => ⟨?_, ?_⟩, unrotatePoint_leftInverse p .r1 pt, unrotatePoint_leftInverse p .r2 pt,
    unrotatePoint_leftInverse p .r3 pt, fun r => mirrorPoint_involutive p m r pt⟩
  · have opposite : b = halfTurn a := by
      simp only [List.mem_cons, List.not_mem_nil, or_false, Prod.mk.injEq] at pair
      rcases pair with ⟨rfl, rfl⟩ | ⟨rfl, rfl⟩ | ⟨rfl, rfl⟩ | ⟨rfl, rfl⟩ <;> rfl
    rw [opposite, transformPoint_halfTurn, rotatePoint]
  · simp only [rotatePoint, square]
  · rw [rotatePoint_r3_of_square square, unrotatePoint_leftInverse]

/-! ## SET_ROTATION -/

/-- Before the first INIT every other command is refused with NOINIT (R285, R312). -/
theorem State.refusal_noinit {s : State} {i : Instr} (blank : s.inited = false) (notInit : i ≠ .init) :
    s.refusal i = some .noinit := by
  simp [State.refusal, blank, notInit]

/-- After INIT no check of R285 refuses SET_ROTATION, in a pass or not. -/
theorem State.refusal_setRotation {s : State} (inited : s.inited = true) (r : Rotation) (m : Bool) :
    s.refusal (.setRotation r m) = none := by
  simp [State.refusal_eq_none_iff, inited, Instr.color?, isWindowCommand, isImageCommand]

/-- Settles O20: only the check for INIT can refuse SET_ROTATION, and GEOM shows the two fields it writes. -/
theorem setRotationResult : Obligations.SetRotationResult := by
  intro s r m
  rw [exec_eq_perform]
  refine ⟨fun inited => ?_, fun blank => ?_⟩
  · refine ⟨_, State.perform_of_accepted _ (State.refusal_setRotation inited r m), rfl, ?_⟩
    generalize shown : commandEffect (.setRotation r m) s = t
    have geom : t.busRead 4 0x20 = t.geomReg := t.busRead_offset .geom
    have mirror : t.geomReg.getLsbD 18 = t.mirror := t.geomReg_getLsbD 0
    rw [geom, t.geomReg_rotation, mirror, ← shown]
    exact ⟨rfl, rfl⟩
  · have refused : s.refusal (.setRotation r m) = some .noinit := State.refusal_noinit blank nofun
    rw [State.perform_of_refused _ refused]
    rfl

end Sys2Proof.Machine
end

section
/-!
PROOFS. The statements of 41_framebuffer.md: FILL, SET_PIXEL_PHYS and SET_PIXEL (R120 to R129).
-/

namespace Sys2Proof.Machine

/-! ## When a colour command is accepted -/

/-- After INIT no check of R285 refuses a command with a colour that is not the reserved one, in a pass or not. -/
theorem State.refusal_color {s : State} {i : Instr} {c : Color} (inited : s.inited = true) (color : i.color? = some c)
    (named : c ≠ .reserved) : s.refusal i = none := by
  have drawing : isWindowCommand i = false ∧ isImageCommand i = false ∧ i ≠ .setPartialWindow := by
    cases i with
    | fill | setPixel | setPixelPhys => exact ⟨rfl, rfl, nofun⟩
    | _ => cases color
  obtain ⟨window, image, partialWindow⟩ := drawing
  simp [State.refusal_eq_none_iff, inited, color, named, window, image, partialWindow]

/-- A colour command that is not refused has its effect. -/
theorem exec_color {s : State} {i : Instr} {c : Color} (inited : s.inited = true) (color : i.color? = some c)
    (named : c ≠ .reserved) : exec i s = .next (commandEffect i s) := by
  rw [exec_eq_perform, State.perform_of_accepted _ (State.refusal_color inited color named)]

/-! ## FILL -/

theorem planeIs_fbFill_self (s : State) (q : Plane) (v : Byte) : planeIs (s.fbFill q v) q v := by
  intro i below
  have listed : i < s.profile.cap := (State.withPlane_profile s q _) ▸ below
  rw [State.fbRead_fbFill_self, if_pos listed]

/-- Filling one plane leaves the other as it is. -/
theorem planeIs_fbFill_other {s : State} {q q' : Plane} {v : Byte} (w : Byte) (other : q' ≠ q) (h : planeIs s q' v) :
    planeIs (s.fbFill q w) q' v := by
  intro i below
  rw [State.fbRead_fbFill_other _ _ _ _ _ other]
  exact h i ((State.withPlane_profile s q _) ▸ below)

theorem planeIs_fbFill_both (s : State) (v w : Byte) :
    planeIs ((s.fbFill .black v).fbFill .accent w) .black v ∧ planeIs ((s.fbFill .black v).fbFill .accent w) .accent w :=
  ⟨planeIs_fbFill_other w nofun (planeIs_fbFill_self s .black v), planeIs_fbFill_self _ .accent w⟩

/-- FILL BLACK fills the black plane, and clears the accent plane where there is one (R122). -/
theorem fillWith_black_planes (s : State) :
    planeIs (s.fillWith .black) .black 0xFF ∧ (s.profile.planes = 2 → planeIs (s.fillWith .black) .accent 0x00) := by
  rw [State.fillWith]
  split
  next two =>
    obtain ⟨black, accent⟩ := planeIs_fbFill_both s 0xFF 0x00
    exact ⟨black, fun _ => accent⟩
  next one => exact ⟨planeIs_fbFill_self s .black _, fun two => absurd two one⟩

theorem fillWith_accent_of_two {s : State} (two : s.profile.planes = 2) :
    s.fillWith .accent = (s.fbFill .black 0x00#8).fbFill .accent 0xFF#8 := by
  rw [State.fillWith, if_pos two]

/-- On a one-plane profile FILL ACCENT follows ACCENT_ON_MONO (R122). -/
theorem fillWith_accent_of_one {s : State} (one : s.profile.planes ≠ 2) :
    (s.profile.accentOnMono = .black → s.fillWith .accent = s.fbFill .black 0xFF) ∧
    (s.profile.accentOnMono = .white → s.fillWith .accent = s.fbFill .black 0x00) ∧
    (s.profile.accentOnMono = .ignore → s.fillWith .accent = s) := by
  rw [State.fillWith, if_neg one]
  cases s.profile.accentOnMono <;> simp

/-- Settles O29: an accepted FILL fills each plane with its colour's byte, and the reserved colour is refused. -/
theorem fillResult : Obligations.FillResult := by
  intro s c inited
  by_cases named : c = .reserved
  · subst named
    exact ⟨_, reservedColourOnlySetsBadcmd s _ inited (.inl rfl), fun _ => rfl, fun other => absurd rfl other,
      nofun, nofun, nofun, nofun, nofun, nofun⟩
  · refine ⟨s.fillWith c, exec_color inited rfl named, fun reserved => absurd reserved named,
      fun _ => fillWith_frame s c, ?white, ?black, ?accentTwo, ?accentBlack, ?accentWhite, ?accentIgnore⟩
    case white =>
      rintro rfl
      obtain ⟨black, accent⟩ := planeIs_fbFill_both s 0x00 0x00
      exact ⟨black, fun _ => accent⟩
    case black =>
      rintro rfl
      exact fillWith_black_planes s
    case accentTwo =>
      rintro rfl two
      rw [fillWith_accent_of_two two]
      exact planeIs_fbFill_both s _ _
    case accentBlack =>
      rintro rfl one mono
      obtain ⟨black, -, -⟩ := fillWith_accent_of_one one
      rw [black mono]
      exact planeIs_fbFill_self s _ _
    case accentWhite =>
      rintro rfl one mono
      obtain ⟨-, white, -⟩ := fillWith_accent_of_one one
      rw [white mono]
      exact planeIs_fbFill_self s _ _
    case accentIgnore =>
      rintro rfl one mono
      obtain ⟨-, -, ignore⟩ := fillWith_accent_of_one one
      exact ignore mono

/-! ## The bits of one pixel -/

theorem State.planes_wf {s : State} (black : s.fbBlack.wf) (accent : s.fbAccent.wf) (q : Plane) : (s.plane q).wf := by
  cases q with
  | black => exact black
  | accent => exact accent

section

variable {s : State} (planes : ∀ q, (s.plane q).wf) (q : Plane) (i k j : Nat) {l : Nat} (low : l < 8)
include planes low

/-- WHITE clears the pixel in every plane of the profile (R123). -/
theorem State.inkWhite_bit :
    ((s.inkWhite i k).fbRead q j).getLsbD l =
      if j = i ∧ l = k then inkAfter s.profile .white q ((s.fbRead q j).getLsbD l) else (s.fbRead q j).getLsbD l := by
  unfold State.inkWhite
  split
  next two =>
    have cleared : ((s.clearInk .black i k).plane .accent).wf := s.fbWrite_wf _ _ _ _ planes
    rw [State.clearInk_bit _ _ _ _ _ _ _ cleared low, State.clearInk_bit _ _ _ _ _ _ _ (planes _) low]
    cases q <;> simp [inkAfter, two]
  next one =>
    rw [State.clearInk_bit _ _ _ _ _ _ _ (planes _) low]
    cases q <;> simp [inkAfter, one]

/-- BLACK sets the pixel in the black plane and clears it in the accent plane of the profile (R124). -/
theorem State.inkBlack_bit :
    ((s.inkBlack i k).fbRead q j).getLsbD l =
      if j = i ∧ l = k then inkAfter s.profile .black q ((s.fbRead q j).getLsbD l) else (s.fbRead q j).getLsbD l := by
  unfold State.inkBlack
  split
  next two =>
    have set : ((s.setInk .black i k).plane .accent).wf := s.fbWrite_wf _ _ _ _ planes
    rw [State.clearInk_bit _ _ _ _ _ _ _ set low, State.setInk_bit _ _ _ _ _ _ _ (planes _) low]
    cases q <;> simp [inkAfter, two]
  next one =>
    rw [State.setInk_bit _ _ _ _ _ _ _ (planes _) low]
    cases q <;> simp [inkAfter, one]

/-- ACCENT sets the pixel in the accent plane and clears it in the black one (R125); on a one-plane profile it is what
ACCENT_ON_MONO makes of it (R126). -/
theorem State.inkAccent_bit :
    ((s.inkAccent i k).fbRead q j).getLsbD l =
      if j = i ∧ l = k then inkAfter s.profile .accent q ((s.fbRead q j).getLsbD l) else (s.fbRead q j).getLsbD l := by
  unfold State.inkAccent
  split
  next two =>
    have set : ((s.setInk .accent i k).plane .black).wf := s.fbWrite_wf _ _ _ _ planes
    rw [State.clearInk_bit _ _ _ _ _ _ _ set low, State.setInk_bit _ _ _ _ _ _ _ (planes _) low]
    cases q <;> simp [inkAfter, two]
  next one =>
    cases mono : s.profile.accentOnMono with
    | black =>
      rw [State.inkBlack_bit planes _ _ _ _ low]
      cases q <;> simp [inkAfter, one, mono]
    | white =>
      rw [State.inkWhite_bit planes _ _ _ _ low]
      cases q <;> simp [inkAfter, one, mono]
    | ignore => cases q <;> simp [inkAfter, one, mono]

/-- Inking a pixel gives its bit of each plane the colour's value and leaves every other bit alone (R123 to R126). -/
theorem State.ink_bit (c : Color) :
    ((s.ink c i k).fbRead q j).getLsbD l =
      if j = i ∧ l = k then inkAfter s.profile c q ((s.fbRead q j).getLsbD l) else (s.fbRead q j).getLsbD l := by
  cases c with
  | white => exact State.inkWhite_bit planes q i k j low
  | black => exact State.inkBlack_bit planes q i k j low
  | accent => exact State.inkAccent_bit planes q i k j low
  | reserved => exact (ite_self _).symm

end

/-! ## Where a pixel stands in the buffer -/

theorem toNat_rowByte {r x : Int} (n : Nat) (row : 0 ≤ r) (col : 0 ≤ x) :
    (r * n + x).toNat = r.toNat * n + x.toNat := by
  rw [Int.toNat_add (Int.mul_nonneg row (Int.natCast_nonneg n)) col, Int.toNat_mul row (Int.natCast_nonneg n),
    Int.toNat_natCast]

/-- The place of a pixel in row `r` of a buffer that holds `rows` rows: the bounds of the panel may be checked before those of
the buffer. -/
theorem site_in_row (p : Profile) (X Y r rows : Int) :
    (if 0 ≤ X ∧ X < p.width ∧ 0 ≤ Y ∧ Y < p.height ∧ 0 ≤ r ∧ r < rows then
      some ((r * p.bpr + X / 8).toNat, (7 - X % 8).toNat) else none) =
    if X < 0 ∨ (p.width : Int) ≤ X ∨ Y < 0 ∨ (p.height : Int) ≤ Y then none
    else (if 0 ≤ r ∧ r < rows then some r.toNat else none).map fun r => (r * p.bpr + (X / 8).toNat, 7 - (X % 8).toNat) := by
  by_cases outside : X < 0 ∨ (p.width : Int) ≤ X ∨ Y < 0 ∨ (p.height : Int) ≤ Y
  · rw [if_pos outside, if_neg (by omega)]
  · by_cases held : 0 ≤ r ∧ r < rows
    · have bit : (7 - X % 8).toNat = 7 - (X % 8).toNat := by omega
      rw [if_neg outside, if_pos held, if_pos (by omega), toNat_rowByte _ held.1 (by omega), bit, Option.map_some]
    · rw [if_neg outside, if_neg held, if_neg (by omega), Option.map_none]

/-- A pixel's byte and bit are those of its buffer row; it has none outside the panel or outside the rows the buffer holds
(R61, R121). -/
theorem pixelSite_eq_bufRow (s : State) (X Y : Int) :
    pixelSite s X Y =
      if X < 0 ∨ (s.profile.width : Int) ≤ X ∨ Y < 0 ∨ (s.profile.height : Int) ≤ Y then none
      else (s.bufRow Y).map fun r => (r * s.profile.bpr + (X / 8).toNat, 7 - (X % 8).toNat) := by
  unfold pixelSite State.bufRow
  cases s.cursor with
  | none => exact Nat.cast_min (α := Int) s.profile.pageHeight s.profile.height ▸ site_in_row s.profile X Y Y _
  | some n => exact site_in_row s.profile X Y (Y - s.profile.pageStart n) (s.profile.pageRows n)

/-- `PlotPhys` inks the pixel's place in the buffer, if it has one (R127). -/
theorem State.plotPhys_eq_elim (s : State) (X Y : Int) (c : Color) :
    s.plotPhys X Y c = (pixelSite s X Y).elim s fun site => s.ink c site.1 site.2 := by
  rw [pixelSite_eq_bufRow, State.plotPhys]
  split
  · rfl
  · cases s.bufRow Y <;> rfl

theorem plotPhys_pixelWritten {s : State} (planes : ∀ q, (s.plane q).wf) (X Y : Int) (c : Color) :
    PixelWritten s (s.plotPhys X Y c) X Y c := by
  refine ⟨plotPhys_frame s X Y c, fun q i k low => ?bits, fun nowhere => ?nowhere⟩
  case bits =>
    rw [State.plotPhys_eq_elim]
    cases pixelSite s X Y with
    | none => simp
    | some site =>
      obtain ⟨i', k'⟩ := site
      simp only [Option.elim_some, State.ink_bit planes q i' k' i low c, Option.some.injEq, Prod.mk.injEq, eq_comm]
  case nowhere => rw [State.plotPhys_eq_elim, nowhere, Option.elim_none]

/-- Settles O30: SET_PIXEL_PHYS is accepted and plots at its operands, and the reserved colour is refused. -/
theorem setPixelPhysResult : Obligations.SetPixelPhysResult := by
  intro s c inited black accent
  refine ⟨fun reserved => ?_, fun named => ?_⟩
  · exact reservedColourOnlySetsBadcmd s _ inited (.inr (.inr (reserved ▸ rfl)))
  · exact ⟨_, exec_color inited rfl named, plotPhys_pixelWritten (State.planes_wf black accent) s.opX s.opY c⟩

/-! ## SET_PIXEL -/

theorem logicalWidth_eq_byRule (p : Profile) (r : Rotation) : logicalWidth p r = widthByRule p r := by cases r <;> rfl

theorem logicalHeight_eq_byRule (p : Profile) (r : Rotation) : logicalHeight p r = heightByRule p r := by
  cases r <;> rfl

/-- Outside the logical rectangle nothing is plotted (R129). -/
theorem plotLogical_of_outside {s : State} {x y : Int} (c : Color)
    (outside : x < 0 ∨ widthByRule s.profile s.rot ≤ x ∨ y < 0 ∨ heightByRule s.profile s.rot ≤ y) :
    s.plotLogical x y c = s := by
  rw [State.plotLogical, logicalWidth_eq_byRule, logicalHeight_eq_byRule, if_pos outside]

/-- Inside the logical rectangle the transformed point is plotted (R129). -/
theorem plotLogical_of_inside {s : State} {x y : Int} (c : Color)
    (inside : 0 ≤ x ∧ x < widthByRule s.profile s.rot ∧ 0 ≤ y ∧ y < heightByRule s.profile s.rot) :
    s.plotLogical x y c =
      s.plotPhys (pointByRule s.profile s.rot s.mirror x y).1 (pointByRule s.profile s.rot s.mirror x y).2 c := by
  rw [State.plotLogical, logicalWidth_eq_byRule, logicalHeight_eq_byRule, if_neg (by omega), transformPoint_eq_byRule]

/-- Settles O31: SET_PIXEL is accepted and plots where the transform takes its operands. -/
theorem setPixelResult : Obligations.SetPixelResult := by
  intro s c inited black accent
  refine ⟨fun reserved => ?_, fun named => ⟨fun outside => ?_, fun inside => ?_⟩⟩
  · exact reservedColourOnlySetsBadcmd s _ inited (.inr (.inl (reserved ▸ rfl)))
  · have plotted : commandEffect (.setPixel c) s = s := plotLogical_of_outside c outside
    rw [exec_color inited rfl named, plotted]
  · refine ⟨_, exec_color inited rfl named, ?_⟩
    have plotted : commandEffect (.setPixel c) s = _ := plotLogical_of_inside c inside
    rw [plotted]
    exact plotPhys_pixelWritten (State.planes_wf black accent) _ _ c

end Sys2Proof.Machine
end

section
/-!
PROOFS. The statements of 42_pager.md: the pages of the panel (R140 to R143), BEGIN_FRAME (R145 to R149), ADVANCE_PAGE (R150 to
R156), and how many commands a pass takes (R160, R161).
-/

namespace Sys2Proof

/-! ## The pages -/

section
variable {p : Profile} (h : p.wf = true)
include h

/-- The pages reach the bottom of the panel (R141). -/
theorem Profile.height_le_pageCount_mul : p.height ≤ p.pageCount * p.pageHeight :=
  Nat.le_of_not_lt fun below => Nat.lt_irrefl _ ((Profile.lt_pageCount_iff h _).2 below)

/-- A row stands on the page whose number is the row divided by PH (R142). -/
theorem Profile.mem_pageRows_iff (n : Nat) (Y : Int) :
    p.pageStart n ≤ Y ∧ Y < p.pageStart n + p.pageRows n ↔ Y / p.pageHeight = n ∧ Y < p.height := by
  have rows : (0 : Int) < p.pageHeight := by exact_mod_cast Profile.pageHeight_pos h
  have page : Y / p.pageHeight = n ↔ n * p.pageHeight ≤ Y ∧ Y < (n + 1) * p.pageHeight := by
    rw [← Int.le_ediv_iff_mul_le rows, ← Int.ediv_lt_iff_lt_mul rows]
    omega
  rw [page, Profile.pageStart, Profile.pageRows, Int.add_mul, Int.one_mul]
  omega

/-- Every page has a row (R143). -/
theorem Profile.pageRows_pos {n : Nat} (hn : n < p.pageCount) : 1 ≤ p.pageRows n := by
  have rows := Profile.pageHeight_pos h
  have start : (n : Int) * p.pageHeight < p.height := by exact_mod_cast (Profile.lt_pageCount_iff h n).1 hn
  rw [Profile.pageRows]
  omega

/-- A page fits the buffer (R140). -/
theorem Profile.pageRows_mul_bpr_le (n : Nat) : p.pageRows n * p.bpr ≤ p.cap :=
  calc p.pageRows n * p.bpr ≤ p.pageHeight * p.bpr := Int.mul_le_mul_of_nonneg_right (min_le_left _ _) (by omega)
    _ = p.cap := by exact_mod_cast Profile.pageHeight_mul_bpr h

/-- All pages but the last have PH rows (R143). -/
theorem Profile.pageRows_of_more {n : Nat} (more : n + 1 < p.pageCount) : p.pageRows n = p.pageHeight := by
  have next : ((n : Int) + 1) * p.pageHeight < p.height := by exact_mod_cast (Profile.lt_pageCount_iff h _).1 more
  rw [Int.add_mul, Int.one_mul] at next
  rw [Profile.pageRows]
  omega

/-- The last page has the rows that remain (R143). -/
theorem Profile.pageRows_of_last {n : Nat} (last : n + 1 = p.pageCount) :
    p.pageRows n = p.height - (n : Int) * p.pageHeight := by
  have bottom : (p.height : Int) ≤ (n + 1) * p.pageHeight := by
    exact_mod_cast last ▸ Profile.height_le_pageCount_mul h
  rw [Int.add_mul, Int.one_mul] at bottom
  rw [Profile.pageRows]
  omega

/-- The extents of the first `k` pages add up to where page `k` starts, or to the panel's height (R142). -/
theorem Profile.sum_pageRows {k : Nat} (hk : k ≤ p.pageCount) :
    ((List.range k).map p.pageRows).sum = min ((k : Int) * p.pageHeight) p.height := by
  induction k with
  | zero => simp
  | succ k ih =>
    have start : (k : Int) * p.pageHeight < p.height := by exact_mod_cast (Profile.lt_pageCount_iff h k).1 hk
    rw [List.range_succ, List.map_append, List.sum_append, ih (by omega), List.map_singleton, List.sum_singleton,
      Profile.pageRows, Nat.cast_add, Nat.cast_one, Int.add_mul, Int.one_mul]
    omega

/-- The pages cover the rows of the panel and no other (R143). -/
theorem Profile.row_on_page_iff (Y : Int) :
    (0 ≤ Y ∧ Y < p.height) ↔ ∃ n, n < p.pageCount ∧ p.pageStart n ≤ Y ∧ Y < p.pageStart n + p.pageRows n := by
  simp only [Profile.mem_pageRows_iff h]
  have rows : (0 : Int) < p.pageHeight := by exact_mod_cast Profile.pageHeight_pos h
  constructor
  · rintro ⟨top, bottom⟩
    obtain ⟨n, page⟩ := Int.eq_ofNat_of_zero_le (Int.ediv_nonneg top rows.le)
    have start : (n : Int) * p.pageHeight ≤ Y := (Int.le_ediv_iff_mul_le rows).1 page.ge
    exact ⟨n, (Profile.lt_pageCount_iff h n).2 (by exact_mod_cast start.trans_lt bottom), page, bottom⟩
  · rintro ⟨n, -, page, bottom⟩
    refine ⟨?_, bottom⟩
    rw [← Int.ediv_nonneg_iff_of_pos rows, page]
    exact Int.natCast_nonneg n

end
end Sys2Proof

namespace Sys2Proof.Machine

/-- Settles O32: a row is on the page that the row divided by PH names, and the pages' extents add up page by page. -/
theorem pagesPartitionThePanel : Obligations.PagesPartitionThePanel := by
  intro p wf
  have hasPage := pageCount_pos wf
  have bottom : (p.height : Int) ≤ p.pageCount * p.pageHeight := by exact_mod_cast Profile.height_le_pageCount_mul wf
  refine ⟨hasPage, Profile.pageHeight_mul_bpr wf,
    fun n hn => ⟨Profile.pageRows_pos wf hn, Profile.pageRows_mul_bpr_le wf n⟩, Profile.row_on_page_iff wf,
    fun Y n k startN endN startK endK => ?_, ?_, fun n more => Profile.pageRows_of_more wf more,
    Profile.pageRows_of_last wf (Nat.succ_pred_eq_of_pos hasPage)⟩
  · have pageN := ((Profile.mem_pageRows_iff wf n Y).1 ⟨startN, endN⟩).1
    have pageK := ((Profile.mem_pageRows_iff wf k Y).1 ⟨startK, endK⟩).1
    exact_mod_cast pageN.symm.trans pageK
  · rw [Profile.sum_pageRows wf le_rfl, min_eq_right bottom]

/-! ## Panel-side operations with the power state they leave -/

/-- From `s` to `t` the wire carries what is expected, `S.pwr` and `S.needReset` become the given values, and nothing else
changes but what the events say. -/
structure PanelRun (s t : State) (exp : List Expected) (pwr needReset : Bool) : Prop where
  observed : Observed s t exp
  writes : t = { s.withPanelSide t with pwr := pwr, needReset := needReset }

namespace PanelRun

variable {s t u : State} {a b : List Expected} {w w' n n' : Bool}

theorem profile (h : PanelRun s t a w n) : t.profile = s.profile := by rw [h.writes]; rfl

theorem passPartial (h : PanelRun s t a w n) : t.passPartial = s.passPartial := by rw [h.writes]; rfl

theorem passWin (h : PanelRun s t a w n) : t.passWin = s.passWin := by rw [h.writes]; rfl

theorem phase (h : PanelRun s t a w n) : t.phase = s.phase := by rw [h.writes]; rfl

theorem pwr (h : PanelRun s t a w n) : t.pwr = w := by rw [h.writes]

theorem needReset (h : PanelRun s t a w n) : t.needReset = n := by rw [h.writes]

theorem trans (h : PanelRun s t a w n) (k : PanelRun t u b w' n') : PanelRun s u (a ++ b) w' n' where
  observed := h.observed.trans h.profile k.observed
  writes := by
    have second : u = { t.withPanelSide u with pwr := w', needReset := n' } := k.writes
    rw [h.writes] at second
    exact second

theorem of_panelStep (h : PanelStep s t a) (hn : t.needReset = n) : PanelRun s t a s.pwr n where
  observed := h.observed
  writes := hn ▸ h.only.eq

/-- A step that leaves the power state alone. -/
theorem trans_panelStep (h : PanelRun s t a w n) (k : PanelStep t u b) (kept : u.needReset = t.needReset) :
    PanelRun s u (a ++ b) w n := by
  have next := of_panelStep k (kept.trans h.needReset)
  rw [h.pwr] at next
  exact h.trans next

theorem runSeq (s : State) (seq : List SeqItem) :
    PanelRun s (s.runSeq seq) (expectSeq s.profile seq) s.pwr (s.needReset && !hasPulse seq) :=
  of_panelStep (runSeq_panelStep seq s) (runSeq_needReset_eq seq s)

theorem streamPage (s : State) (n : Nat) : PanelRun s (s.streamPage n) (expectPage s n) s.pwr s.needReset :=
  of_panelStep (streamPage_panelStep s n) (streamPage_needReset s n)

/-- `InitPanel` leaves the panel on, with no reset pulse due (R193, R194). -/
theorem initPanel (s : State) (m : Mode) :
    PanelRun s (s.initPanel m) (expectInit s.profile s.needReset s.pwr m) true false := by
  obtain ⟨observed, writes⟩ := initPanel_spec s m
  exact ⟨observed, writes⟩

/-- `PowerOffIfOn` on a panel that is on leaves it off (R195). -/
theorem powerOffIfOn {s : State} (on : s.pwr = true) :
    PanelRun s s.powerOffIfOn (expectSeq s.profile s.profile.seqPowerOff) false
      ((s.needReset && !hasPulse s.profile.seqPowerOff) || s.profile.wakeNeedsReset) := by
  obtain ⟨observed, writes⟩ := powerOffIfOn_on s on
  have run := runSeq s s.profile.seqPowerOff
  have flag : s.powerOffIfOn.needReset =
      ((s.needReset && !hasPulse s.profile.seqPowerOff) || s.profile.wakeNeedsReset) := by
    rw [State.powerOffIfOn, if_pos on, State.notePowerOff, run.needReset, run.profile]
  exact ⟨observed, flag ▸ writes⟩

end PanelRun

/-- `PowerOffIfOn` on a panel that is off does nothing (R195). -/
theorem powerOffIfOn_of_off {s : State} (off : s.pwr = false) : s.powerOffIfOn = s := if_neg (by simp [off])

/-! ## BEGIN_FRAME -/

theorem exec_beginFrame {s : State} (inited : s.inited = true) : exec .beginFrame s = .next s.beginPass := by
  rw [exec_eq_perform, State.perform_of_accepted _ (State.refusal_pageProtocol inited).1]
  rfl

/-- The latched pass is the one of R145. -/
theorem latchPass_eq (s : State) :
    s.latchPass = { s with passPartial := decide (s.winMode = .partialMode), passWin := latchedWindow s } := by
  cases mode : s.winMode <;> simp [State.latchPass, latchedWindow, mode, fullRect]

theorem passMode_latchPass (s : State) : s.latchPass.passMode = latchedMode s := by
  rw [latchPass_eq]
  cases mode : s.winMode <;> simp [State.passMode, latchedMode, mode]

/-- What a CONTINUOUS profile sends once before the pages: the pass window unless it is empty, and the write command of the
black plane (R148, R149). -/
def expectStreamStart (p : Profile) (R : Rect) : List Expected :=
  if p.stream = .continuous then
    (if R.w = 0 ∨ R.h = 0 then [] else expectWindow p R) ++ expectCmd p.cmdWriteBlack
  else []

theorem setWindow_needReset (s : State) (R : Rect) : (s.setWindow R).needReset = s.needReset := by
  unfold State.setWindow
  cases s.profile.winEnc with
  | abs => simp [State.setWindowAbs]
  | entry => simp [State.entryPointers, State.entryRanges, State.entryMode]
  | none => rfl

theorem PanelRun.setWindowUnlessEmpty (s : State) (R : Rect) :
    PanelRun s (if R.isEmpty = true then s else s.setWindow R)
      (if R.w = 0 ∨ R.h = 0 then [] else expectWindow s.profile R) s.pwr s.needReset := by
  simp only [Rect.isEmpty_iff]
  split
  · exact .of_panelStep (.refl s) rfl
  · exact .of_panelStep (setWindow_panelStep s R) (setWindow_needReset s R)

/-- The pass start of a CONTINUOUS profile; a PER_PAGE profile sends nothing here (R149). -/
theorem PanelRun.startStream (s : State) :
    PanelRun s s.startStream (expectStreamStart s.profile s.passWin) s.pwr s.needReset := by
  unfold State.startStream expectStreamStart
  cases s.profile.stream with
  | perPage => exact .of_panelStep (.refl s) rfl
  | continuous =>
    have window := PanelRun.setWindowUnlessEmpty s s.passWin
    exact window.trans_panelStep (emitCmd_panelStep _ s.profile.cmdWriteBlack) rfl

/-- The panel's part of BEGIN_FRAME: the init, then the pass start (R148). -/
theorem PanelRun.initPanel_startStream (s : State) (m : Mode) :
    PanelRun s (s.initPanel m).startStream
      (expectInit s.profile s.needReset s.pwr m ++ expectStreamStart s.profile s.passWin) true false := by
  have init := PanelRun.initPanel s m
  have start := PanelRun.startStream (s.initPanel m)
  rw [init.profile, init.passWin, init.pwr, init.needReset] at start
  exact init.trans start

theorem blankBuffer_of_nil {t : State} (black : t.fbBlack = []) (accent : t.fbAccent = []) : blankBuffer t := by
  intro q i
  cases q with
  | black => rw [State.fbRead, State.plane_black, black]; rfl
  | accent => rw [State.fbRead, State.plane_accent, accent]; rfl

/-- Latching the pass shows nowhere on the panel side; then BEGIN_FRAME runs the panel's part (R145, R148). -/
theorem panelRun_of_beginPass (s : State) :
    PanelRun { s with passPartial := decide (s.winMode = .partialMode), passWin := latchedWindow s }
      (s.latchPass.initPanel s.latchPass.passMode).startStream
      (expectInit s.profile s.needReset s.pwr (latchedMode s) ++ expectStreamStart s.profile (latchedWindow s)) true
      false := by
  rw [passMode_latchPass, latchPass_eq]
  exact PanelRun.initPanel_startStream _ _

/-- Settles O34: BEGIN_FRAME latches the pass, runs the panel's part, and enters the pass with a blank buffer. -/
theorem beginFrameResult : Obligations.BeginFrameResult := by
  intro s inited
  have run := panelRun_of_beginPass s
  have sent := run.observed.congr_left (s' := s) rfl rfl rfl rfl rfl
  exact ⟨s.beginPass, exec_beginFrame inited, sent.congr rfl rfl rfl rfl, congrArg State.enterPass run.writes,
    blankBuffer_of_nil rfl rfl⟩

/-! ## ADVANCE_PAGE -/

theorem exec_advancePage {s : State} (inited : s.inited = true) : exec .advancePage s = .next s.advance := by
  rw [exec_eq_perform, State.perform_of_accepted _ (State.refusal_pageProtocol inited).2]
  rfl

/-- Settles O35: without a pass, all that ADVANCE_PAGE writes is CONT. -/
theorem advanceWithoutAPass : Obligations.AdvanceWithoutAPass := by
  intro s inited noPass
  rw [exec_advancePage inited, State.advance, noPass]

/-- In a pass ADVANCE_PAGE streams the resident page and leaves it (R153). -/
theorem exec_advancePage_of_cursor {s : State} {n : Nat} (inited : s.inited = true) (page : s.cursor = some n) :
    exec .advancePage s = .next ((s.streamPage n).leavePage n) := by
  rw [exec_advancePage inited, State.advance, page]

section
variable {s : State} {n : Nat}

/-- With pages left the cursor moves on (R153). -/
theorem leavePage_of_more (more : n + 1 < s.profile.pageCount) :
    s.leavePage n = { s.clearFB with cursor := some (n + 1), cont := true } := if_pos more

/-- After the last page of phase 0 of a TWO_PASS profile comes the phase switch (R153, R154). -/
theorem leavePage_of_switch (last : s.profile.pageCount ≤ n + 1) (switch : s.profile.twoPass = true ∧ s.phase = .first) :
    s.leavePage n = { s.phaseSwitch with cont := true } := by
  rw [State.leavePage, if_neg (by omega), if_pos switch]

/-- After the last page of the last phase comes the end of the pass (R153, R155). -/
theorem leavePage_of_end (last : s.profile.pageCount ≤ n + 1) (final : ¬ (s.profile.twoPass = true ∧ s.phase = .first)) :
    s.leavePage n = { s.finalRefresh with cursor := none, phase := .first, cont := false } := by
  rw [State.leavePage, if_neg (by omega), if_neg final, State.endPass_eq]

end

/-- Settles O36: the page is streamed, then the cursor moves on over a blank buffer. -/
theorem advanceToTheNextPage : Obligations.AdvanceToTheNextPage := by
  intro s n inited page more
  have run := PanelRun.streamPage s n
  refine ⟨_, exec_advancePage_of_cursor inited page, ?_⟩
  generalize s.streamPage n = u at run
  rw [leavePage_of_more (by rwa [run.profile])]
  exact ⟨run.observed.congr rfl rfl rfl rfl,
    congrArg (fun v : State => { v.clearFB with cursor := some (n + 1), cont := true }) run.writes,
    blankBuffer_of_nil rfl rfl⟩

/-- Settles O37: the page is streamed, then the phase switch sends its write command. -/
theorem advanceSwitchesThePhase : Obligations.AdvanceSwitchesThePhase := by
  intro s n inited page last twoPass first
  have run := PanelRun.streamPage s n
  refine ⟨_, exec_advancePage_of_cursor inited page, ?_⟩
  generalize s.streamPage n = u at run
  rw [leavePage_of_switch (by rwa [run.profile]) (by rw [run.profile, run.phase]; exact ⟨twoPass, first⟩)]
  have sent := run.trans_panelStep (emitCmd_panelStep u s.profile.cmdWriteAccent) rfl
  have switched : u.phaseSwitch =
      { (u.emitCmd s.profile.cmdWriteAccent).clearFB with phase := .second, cursor := some 0 } := by
    rw [← run.profile]
    rfl
  rw [switched]
  exact ⟨sent.observed.congr rfl rfl rfl rfl,
    congrArg (fun v : State => { v.clearFB with phase := .second, cursor := some 0, cont := true }) sent.writes,
    blankBuffer_of_nil rfl rfl⟩

section
variable {s : State}

theorem hasPulse_append (a b : List SeqItem) : hasPulse (a ++ b) = (hasPulse a || hasPulse b) := List.any_append

/-- A partial pass ends with the partial refresh (R155, R196). -/
theorem PanelRun.finalRefresh_partial (part : s.passPartial = true) :
    PanelRun s s.finalRefresh (expectSeq s.profile s.profile.seqRefreshPartial) s.pwr
      (s.needReset && !hasPulse s.profile.seqRefreshPartial) := by
  rw [State.finalRefresh, if_pos part]
  exact .runSeq s _

/-- A full pass ends with the full refresh and, on a panel that is on, with power off (R155, R195). -/
theorem PanelRun.finalRefresh_full_on (full : s.passPartial = false) (on : s.pwr = true) :
    PanelRun s s.finalRefresh
      (expectSeq s.profile s.profile.seqRefreshFull ++ expectSeq s.profile s.profile.seqPowerOff) false
      ((s.needReset && !hasPulse (s.profile.seqRefreshFull ++ s.profile.seqPowerOff)) || s.profile.wakeNeedsReset) := by
  have refreshed := PanelRun.runSeq s s.profile.seqRefreshFull
  have off := PanelRun.powerOffIfOn (refreshed.pwr.trans on)
  rw [refreshed.profile, refreshed.needReset, Bool.and_assoc, ← Bool.not_or, ← hasPulse_append] at off
  rw [State.finalRefresh, if_neg (by simp [full])]
  exact refreshed.trans off

/-- On a panel that is off only the refresh remains. -/
theorem PanelRun.finalRefresh_full_off (full : s.passPartial = false) (off : s.pwr = false) :
    PanelRun s s.finalRefresh (expectSeq s.profile s.profile.seqRefreshFull) s.pwr
      (s.needReset && !hasPulse s.profile.seqRefreshFull) := by
  have refreshed : PanelRun s (s.refresh .full) _ _ _ := .runSeq s s.profile.seqRefreshFull
  rw [State.finalRefresh, if_neg (by simp [full]), powerOffIfOn_of_off (refreshed.pwr.trans off)]
  exact refreshed

end

/-- A run after which the pass is over: the cursor, the phase and CONT change besides (R155). -/
theorem PanelRun.endOfPass {s v : State} {a : List Expected} {w n : Bool} (h : PanelRun s v a w n) :
    Observed s { v with cursor := none, phase := .first, cont := false } a ∧
      { v with cursor := none, phase := .first, cont := false } =
        { s.withPanelSide v with cursor := none, phase := .first, cont := false, pwr := w, needReset := n } :=
  ⟨h.observed.congr rfl rfl rfl rfl,
    congrArg (fun v : State => { v with cursor := none, phase := .first, cont := false }) h.writes⟩

/-- Settles O38: the page is streamed, then the pass ends as its mode and the power state say. -/
theorem advanceEndsThePass : Obligations.AdvanceEndsThePass := by
  intro s n inited page last final
  have run := PanelRun.streamPage s n
  refine ⟨_, exec_advancePage_of_cursor inited page, ?_⟩
  generalize s.streamPage n = u at run
  rw [leavePage_of_end (by rwa [run.profile]) (by rwa [run.profile, run.phase])]
  refine ⟨fun part => ?_, fun full on => ?_, fun full off => ?_⟩
  · have ending := PanelRun.finalRefresh_partial (run.passPartial.trans part)
    rw [run.profile, run.pwr, run.needReset] at ending
    exact (run.trans ending).endOfPass
  · have ending := PanelRun.finalRefresh_full_on (run.passPartial.trans full) (run.pwr.trans on)
    rw [run.profile, run.needReset] at ending
    rw [List.append_assoc]
    exact (run.trans ending).endOfPass
  · have ending := PanelRun.finalRefresh_full_off (run.passPartial.trans full) (run.pwr.trans off)
    rw [run.profile, run.pwr, run.needReset] at ending
    exact (run.trans ending).endOfPass

/-! ## A whole pass -/

/-- The engine is in a pass at page `n` of phase `f`, and the last answer was "continue". -/
structure AtPage (p : Profile) (n : Nat) (f : Phase) (s : State) : Prop where
  profile : s.profile = p
  inited : s.inited = true
  cursor : s.cursor = some n
  phase : s.phase = f
  cont : s.cont = true

/-- The pass is over (R155). -/
structure PassOver (s : State) : Prop where
  cursor : s.cursor = none
  phase : s.phase = .first
  cont : s.cont = false

namespace AtPage

variable {p : Profile} {n k : Nat} {f : Phase} {s : State}

theorem next (h : AtPage p n f s) (more : n + 1 < p.pageCount) :
    ∃ t, exec .advancePage s = .next t ∧ AtPage p (n + 1) f t := by
  obtain ⟨t, answer, -, writes, -⟩ := advanceToTheNextPage s n h.inited h.cursor (h.profile ▸ more)
  exact ⟨t, answer, by rw [writes]; exact ⟨h.profile, h.inited, rfl, h.phase, rfl⟩⟩

theorem switch (h : AtPage p n .first s) (last : p.pageCount ≤ n + 1) (twoPass : p.twoPass = true) :
    ∃ t, exec .advancePage s = .next t ∧ AtPage p 0 .second t := by
  obtain ⟨t, answer, -, writes, -⟩ :=
    advanceSwitchesThePhase s n h.inited h.cursor (h.profile ▸ last) (h.profile ▸ twoPass) h.phase
  exact ⟨t, answer, by rw [writes]; exact ⟨h.profile, h.inited, rfl, rfl, rfl⟩⟩

theorem finish (h : AtPage p n f s) (last : p.pageCount ≤ n + 1) (final : ¬ (p.twoPass = true ∧ f = .first)) :
    ∃ t, exec .advancePage s = .next t ∧ PassOver t := by
  rw [← h.profile, ← h.phase] at final
  refine ⟨_, exec_advancePage_of_cursor h.inited h.cursor, ?_⟩
  have run := PanelRun.streamPage s n
  rw [leavePage_of_end (by rwa [run.profile, h.profile]) (by rwa [run.profile, run.phase])]
  exact ⟨rfl, rfl, rfl⟩

end AtPage

/-- The first of some ADVANCE_PAGE commands. -/
theorem advanceTimes_succ {s t : State} (answer : exec .advancePage s = .next t) (k : Nat) :
    advanceTimes (k + 1) s = advanceTimes k t := by
  rw [advanceTimes, answer]

/-- More commands go on from where the first ones ended. -/
theorem advanceTimes_add {j : Nat} {s t : State} (first : advanceTimes j s = some t) (k : Nat) :
    advanceTimes (j + k) s = advanceTimes k t := by
  induction j generalizing s with
  | zero =>
    cases first
    rw [Nat.zero_add]
  | succ j ih =>
    cases answer : exec .advancePage s with
    | next u =>
      rw [advanceTimes_succ answer] at first
      rw [Nat.succ_add, Nat.succ_eq_add_one, advanceTimes_succ answer]
      exact ih first
    | fault r => exact nomatch r
    | refused r =>
      rw [advanceTimes, answer] at first
      cases first

/-- As long as there are pages left, each command moves on by one page (R153). -/
theorem AtPage.advanceTimes {p : Profile} {n k : Nat} {f : Phase} {s : State} (h : AtPage p n f s)
    (more : n + k < p.pageCount) : ∃ t, advanceTimes k s = some t ∧ AtPage p (n + k) f t := by
  induction k generalizing n s with
  | zero => exact ⟨s, rfl, h⟩
  | succ k ih =>
    obtain ⟨u, answer, atNext⟩ := h.next (by omega)
    obtain ⟨t, rest, atPage⟩ := ih atNext (by omega)
    exact ⟨t, (advanceTimes_succ answer k).trans rest, by rwa [Nat.add_right_comm] at atPage⟩

/-- After PC commands the last page is left: what the last of them answers is what the PC commands answer. -/
theorem AtPage.advanceTimes_pageCount {p : Profile} {f : Phase} {s : State} {Q : State → Prop} (h : AtPage p 0 f s)
    (hasPage : 0 < p.pageCount)
    (leave : ∀ u n, AtPage p n f u → p.pageCount ≤ n + 1 → ∃ t, exec .advancePage u = .next t ∧ Q t) :
    ∃ t, Machine.advanceTimes p.pageCount s = some t ∧ Q t := by
  obtain ⟨m, pages⟩ := Nat.exists_eq_succ_of_ne_zero hasPage.ne'
  obtain ⟨u, before, atLast⟩ := h.advanceTimes (k := m) (by omega)
  obtain ⟨t, answer, left⟩ := leave u _ atLast (by omega)
  refine ⟨t, ?_, left⟩
  rw [pages, Nat.succ_eq_add_one, advanceTimes_add before, advanceTimes_succ answer]
  rfl

/-- Settles O39: PC commands leave the last page of a phase; a TWO_PASS profile has two phases. -/
theorem passCompletesAfterItsPages : Obligations.PassCompletesAfterItsPages := by
  intro s wf inited cursor phase cont
  have start : AtPage s.profile 0 .first s := ⟨rfl, inited, cursor, phase, cont⟩
  have hasPage := pageCount_pos wf
  refine ⟨fun k hk => ?_, fun onePass => ?_, fun twoPass => ?_⟩
  · obtain ⟨t, commands, atPage⟩ := start.advanceTimes (k := k) (by omega)
    rw [Nat.zero_add] at atPage
    exact ⟨t, commands, atPage.cursor, atPage.phase, atPage.cont⟩
  · obtain ⟨t, commands, ended⟩ := start.advanceTimes_pageCount hasPage fun u n atLast last =>
      atLast.finish last (by simp [onePass])
    exact ⟨t, commands, ended.cursor, ended.phase, ended.cont⟩
  · obtain ⟨u, firstPhase, second⟩ := start.advanceTimes_pageCount hasPage fun u n atLast last =>
      atLast.switch last twoPass
    refine ⟨fun k hk => ?_, ?_⟩
    · obtain ⟨t, commands, atPage⟩ := second.advanceTimes (k := k) (by omega)
      rw [Nat.zero_add] at atPage
      exact ⟨t, (advanceTimes_add firstPhase k).trans commands, atPage.cursor, atPage.phase, atPage.cont⟩
    · obtain ⟨t, commands, ended⟩ := second.advanceTimes_pageCount hasPage fun u n atLast last =>
        atLast.finish last (by simp)
      rw [Nat.two_mul]
      exact ⟨t, (advanceTimes_add firstPhase _).trans commands, ended.cursor, ended.phase, ended.cont⟩

end Sys2Proof.Machine
end

section
/-!
PROOFS. The statements of 43_controller.md: the pins and bits of an event (R181 to R186), the busy wait (R187 to R190), POWER_OFF
(R195, R251), the RAM window's bytes (R197 to R202) and the data encoders (R203 to R206).
-/

namespace Sys2Proof.Machine

/-! ## Pins and bits of an event -/

/-- Shifting bytes out moves no pin of R184. -/
theorem pins_after_transfers (bs : List Byte) (p : Pins) : (bs.map PinAction.transfer).foldl Pins.after p = p := by
  induction bs with
  | nil => rfl
  | cons b bs ih => exact ih

theorem emit_data_dc (s : State) (bs : List Byte) : (s.emit (.data bs)).pins.dc = true := by
  simp only [State.emit, WireEvent.pinActions, List.foldl_append, pins_after_transfers]
  rfl

theorem WireEvent.bits_cmd (b : Byte) : (WireEvent.cmd b).bits = wireBits b := List.append_nil _

theorem WireEvent.bits_data (bs : List Byte) : (WireEvent.data bs).bits = bs.flatMap wireBits := by
  simp [WireEvent.bits, WireEvent.pinActions, List.flatMap_map]

theorem wireBits_getElem? (b : Byte) {k : Nat} (hk : k < 8) : (wireBits b)[k]? = some (b.getMsbD k) := by
  simp [wireBits, hk, BitVec.getMsbD_eq_getLsbD]

/-- Settles O43: CS and RST as after any list of events, DC and the bits by the kind of the event. -/
theorem pinsAfterAnEvent : Obligations.PinsAfterAnEvent := by
  refine ⟨fun s e cs rst => ?_, fun b k hk => wireBits_getElem? b hk⟩
  obtain ⟨csAfter, rstAfter⟩ := pinsAfter_idle [e] ⟨cs, rst⟩
  refine ⟨csAfter, rstAfter, ?_, ?_, fun notCmd notData => ?_⟩
  · rintro b rfl
    exact ⟨rfl, WireEvent.bits_cmd b⟩
  · rintro bs rfl
    exact ⟨emit_data_dc s bs, WireEvent.bits_data bs⟩
  · cases e with
    | cmd b => exact absurd rfl (notCmd b)
    | data bs => exact absurd rfl (notData bs)
    | reset lo hi => exact ⟨rfl, rfl⟩
    | delay ms => exact ⟨rfl, rfl⟩
    | busy o el => exact ⟨rfl, rfl⟩

/-! ## The busy wait -/

section
variable {p : Profile} {a : Poll} {rest : List Poll}

/-- A sample that is busy and below the ceiling is polled past (R187). -/
theorem pollLoop_of_waiting (busy : a.level = p.busyLevel) (below : a.elapsed < p.busyTimeoutUs) :
    pollLoop p (a :: rest) = pollLoop p rest := by
  rw [pollLoop, if_neg (not_not_intro busy), if_neg (Nat.not_le.2 below)]

theorem pollLoop_of_ready (ready : a.level ≠ p.busyLevel) : pollLoop p (a :: rest) = some (.ready, a.elapsed, rest) := by
  rw [pollLoop, if_pos ready]

theorem pollLoop_of_timeout (busy : a.level = p.busyLevel) (ceiling : p.busyTimeoutUs ≤ a.elapsed) :
    pollLoop p (a :: rest) = some (.timeout, a.elapsed, rest) := by
  rw [pollLoop, if_neg (not_not_intro busy), if_pos ceiling]

theorem pollLoop_append_of_waiting {pre : List Poll}
    (waiting : ∀ b ∈ pre, b.level = p.busyLevel ∧ b.elapsed < p.busyTimeoutUs) (polls : List Poll) :
    pollLoop p (pre ++ polls) = pollLoop p polls := by
  induction pre with
  | nil => rfl
  | cons b pre ih =>
    obtain ⟨⟨busy, below⟩, others⟩ := List.forall_mem_cons.1 waiting
    exact (pollLoop_of_waiting busy below).trans (ih others)

end

/-- What a busy wait answered from the samples at hand leaves behind (R187, R189). -/
theorem busyWait_of_pollLoop {s : State} {o : BusyOutcome} {el : Nat} {rest : List Poll}
    (answer : pollLoop s.profile s.polls = some (o, el, rest)) :
    s.busyWait = { s.noteOutcome o with
      polls := rest, lastBusyUs := saturate32 el, wire := s.wire ++ [.busy o el] } := by
  have answered : s.busyAnswer = (o, el, rest, s.draws) := by rw [State.busyAnswer, answer]
  rw [State.busyWait, answered]
  cases o <;> rfl

/-- Settles O40: the loop polls past the waiting samples and stops at the one after them. -/
theorem busyWaitPollsUntilReadyOrCeiling : Obligations.BusyWaitPollsUntilReadyOrCeiling := by
  intro s pre rest a polls waiting
  have reached : pollLoop s.profile s.polls = pollLoop s.profile (a :: rest) := by
    rw [polls, pollLoop_append_of_waiting waiting]
  refine ⟨fun ready => ?_, fun busy ceiling => ?_⟩
  · exact busyWait_of_pollLoop (reached.trans (pollLoop_of_ready ready))
  · exact busyWait_of_pollLoop (reached.trans (pollLoop_of_timeout busy ceiling))

/-! ## POWER_OFF -/

theorem exec_powerOff {s : State} (inited : s.inited = true) : exec .powerOff s = .next s.powerOffIfOn := by
  have accepted : s.refusal .powerOff = none := by
    simp [State.refusal_eq_none_iff, inited, Instr.color?, isWindowCommand, isImageCommand]
  rw [exec_eq_perform, State.perform_of_accepted _ accepted]
  rfl

/-- Settles O45: POWER_OFF is never refused after INIT, so it is `PowerOffIfOn`. -/
theorem powerOffResult : Obligations.PowerOffResult := by
  intro s inited
  rw [exec_powerOff inited]
  refine ⟨fun off => congrArg _ (powerOffIfOn_of_off off), fun on => ?_⟩
  have run := PanelRun.powerOffIfOn on
  exact ⟨s.powerOffIfOn, rfl, run.observed, run.writes⟩

/-! ## The window bytes -/

/-- Fixed events in a row write the wire and the pins, nothing else. -/
theorem foldl_emit (es : List WireEvent) (s : State) :
    es.foldl State.emit s = { s with wire := s.wire ++ es, pins := pinsAfter s.pins es } := by
  induction es generalizing s with
  | nil => simp [pinsAfter]
  | cons e es ih =>
    rw [List.foldl_cons, ih]
    simp [State.emit, pinsAfter]

theorem emitted_wire_and_frame {s t : State} {es : List WireEvent} (sent : t = es.foldl State.emit s) :
    t.wire = s.wire ++ es ∧ t = { s with wire := t.wire, pins := t.pins } := by
  rw [sent, foldl_emit]
  exact ⟨rfl, rfl⟩

theorem setWindow_of_abs {s : State} (enc : s.profile.winEnc = .abs) (R : Rect) :
    s.setWindow R = [.cmd s.profile.cmdWinAbs, .data (absBytes R ++ s.profile.absSuffix)].foldl State.emit s := by
  rw [State.setWindow, enc]
  rfl

theorem setWindow_of_entry {s : State} (enc : s.profile.winEnc = .entry) (R : Rect) :
    s.setWindow R =
      [.cmd s.profile.cmdEntry, .data [s.profile.entryVal],
        .cmd s.profile.cmdXRange, .data [columnByte R.x, columnByte (R.x + R.w - 1)],
        .cmd s.profile.cmdYRange, .data [lowByte R.y, highByte R.y, lowByte (R.y + R.h - 1), highByte (R.y + R.h - 1)],
        .cmd s.profile.cmdXPtr, .data [columnByte R.x],
        .cmd s.profile.cmdYPtr, .data [lowByte R.y, highByte R.y]].foldl State.emit s := by
  rw [State.setWindow, enc]
  rfl

theorem setWindow_of_none {s : State} (enc : s.profile.winEnc = .none) (R : Rect) : s.setWindow R = s := by
  rw [State.setWindow, enc]

/-- A 16-bit value is read back from its two bytes (R198, R200). -/
theorem highByte_lowByte_toNat {v : Int} (nonneg : 0 ≤ v) (fits : v < 65536) :
    (256 * (highByte v).toNat + (lowByte v).toNat : Int) = v := by
  simp only [highByte, lowByte, BitVec.extractLsb'_toNat, BitVec.toNat_ofInt, Nat.shiftRight_eq_div_pow]
  omega

/-- A byte column is read back from its byte (R200). -/
theorem columnByte_toNat {x : Int} (nonneg : 0 ≤ x) (fits : x < 2048) : ((columnByte x).toNat : Int) = x / 8 := by
  rw [columnByte, BitVec.toNat_ofInt]
  omega

/-- Settles O41: each encoding sends its events, and a coordinate of the panel fits its bytes. -/
theorem windowBytesCarryTheCoordinates : Obligations.WindowBytesCarryTheCoordinates := by
  intro s R wf inPanel hasColumns hasRows
  obtain ⟨⟨-, -, width, -, height⟩, -, -, -, -, -, -, -, -, -, -, narrow, -⟩ := Profile.admitted_of_wf wf
  obtain ⟨x_nonneg, x_aligned, w_nonneg, w_aligned, x_end, y_nonneg, h_nonneg, y_end⟩ := inPanel
  have top := highByte_lowByte_toNat y_nonneg (by omega)
  have bottom := highByte_lowByte_toNat (v := R.y + R.h - 1) (by omega) (by omega)
  refine ⟨fun encAbs => ?_, fun encEntry => ?_, fun encNone => setWindow_of_none encNone R⟩
  · obtain ⟨wire, frame⟩ := emitted_wire_and_frame (setWindow_of_abs encAbs R)
    have left := highByte_lowByte_toNat x_nonneg (by omega)
    have right := highByte_lowByte_toNat (v := R.x + R.w - 1) (by omega) (by omega)
    exact ⟨_, _, _, _, _, _, _, _, s.setWindow R, rfl, wire, frame, left, right, top, bottom⟩
  · obtain ⟨wire, frame⟩ := emitted_wire_and_frame (setWindow_of_entry encEntry R)
    have panel := narrow encEntry
    have left := columnByte_toNat x_nonneg (by omega)
    have right := columnByte_toNat (x := R.x + R.w - 1) (by omega) (by omega)
    exact ⟨_, _, _, _, _, _, s.setWindow R, rfl, wire, frame, by omega, by omega, by omega, by omega⟩

/-! ## The encoders -/

section
variable {α β : Type} {f : α → List β} {m : Nat} (blocks : ∀ a, (f a).length = m)
include blocks

theorem length_flatMap_of_blocks (l : List α) : (l.flatMap f).length = m * l.length := by
  simp [List.length_flatMap, blocks, Nat.mul_comm]

/-- Where blocks of one length are joined, element `k` of block `n` stands at `m * n + k`. -/
theorem getElem?_flatMap_of_blocks {l : List α} {n k : Nat} {a : α} (block : l[n]? = some a) (hk : k < m) :
    (l.flatMap f)[m * n + k]? = (f a)[k]? := by
  induction l generalizing n with
  | nil => cases block
  | cons b l ih =>
    rw [List.flatMap_cons]
    cases n with
    | zero =>
      cases block
      rw [Nat.mul_zero, Nat.zero_add, List.getElem?_append_left (by rwa [blocks])]
    | succ n =>
      have later : m * (n + 1) + k = (f b).length + (m * n + k) := by rw [blocks, Nat.mul_succ]; omega
      rw [later, List.getElem?_append_right (Nat.le_add_right _ _), Nat.add_sub_cancel_left]
      exact ih block

end

theorem Rect.length_rowCells (x w Y : Int) : (Rect.rowCells x w Y).length = (w / 8).toNat := by simp [Rect.rowCells]

theorem Rect.length_cells (R : Rect) : R.cells.length = R.h.toNat * (R.w / 8).toNat := by
  rw [Rect.cells_eq_flatMap, length_flatMap_of_blocks (Rect.length_rowCells R.x R.w), Nat.mul_comm]
  simp [rowsFrom]

/-- The positions of a rectangle are in row-major order (R203). -/
theorem Rect.cells_getElem? (R : Rect) {i j : Nat} (row : i < R.h.toNat) (column : j < (R.w / 8).toNat) :
    R.cells[i * (R.w / 8).toNat + j]? = some (R.x / 8 + j, R.y + i) := by
  have rowAt : (rowsFrom R.y R.h)[i]? = some (R.y + i) := by simp [rowsFrom, row]
  rw [Rect.cells_eq_flatMap, Nat.mul_comm,
    getElem?_flatMap_of_blocks (Rect.length_rowCells R.x R.w) rowAt column]
  simp [Rect.rowCells, column]

section
variable (p : Profile) (R : Rect) (src : ByteSource)

/-- The bytes `encGrey` makes of one position (R205). -/
def greyBlock (cy : Int × Int) : List Byte :=
  [greyOf p ((src .black cy.1 cy.2).extractLsb' 4 4), greyOf p ((src .black cy.1 cy.2).extractLsb' 0 4)]

theorem encGrey_eq_flatMap : encGrey p R src = R.cells.flatMap (greyBlock p src) := rfl

/-- The bytes `encNibble` makes of one position (R206). -/
def nibbleBlock (cy : Int × Int) : List Byte :=
  (List.range 4).map (nibbleByte p (src .black cy.1 cy.2) (src .accent cy.1 cy.2))

theorem encNibble_eq_flatMap : encNibble p R src = R.cells.flatMap (nibbleBlock p src) := rfl

theorem length_greyBlock (cy : Int × Int) : (greyBlock p src cy).length = 2 := rfl

theorem length_nibbleBlock (cy : Int × Int) : (nibbleBlock p src cy).length = 4 := rfl

theorem length_encPlain (q : Plane) : (encPlain p q R src).length = R.h.toNat * (R.w / 8).toNat := by
  rw [encPlain, List.length_map, R.length_cells]

theorem length_encGrey : (encGrey p R src).length = 2 * (R.h.toNat * (R.w / 8).toNat) := by
  rw [encGrey_eq_flatMap, length_flatMap_of_blocks (length_greyBlock p src), R.length_cells]

theorem length_encNibble : (encNibble p R src).length = 4 * (R.h.toNat * (R.w / 8).toNat) := by
  rw [encNibble_eq_flatMap, length_flatMap_of_blocks (length_nibbleBlock p src), R.length_cells]

variable {R} {n k : Nat} {c Y : Int}

theorem encPlain_getElem? (q : Plane) (position : R.cells[n]? = some (c, Y)) :
    (encPlain p q R src)[n]? = some (if p.inv q then ~~~(src q c Y) else src q c Y) := by
  rw [encPlain, List.getElem?_map, position]
  rfl

theorem encGrey_getElem? (position : R.cells[n]? = some (c, Y)) (hk : k < 2) :
    (encGrey p R src)[2 * n + k]? = (greyBlock p src (c, Y))[k]? := by
  rw [encGrey_eq_flatMap, getElem?_flatMap_of_blocks (length_greyBlock p src) position hk]

theorem encNibble_getElem? (position : R.cells[n]? = some (c, Y)) (hk : k < 4) :
    (encNibble p R src)[4 * n + k]? = some (nibbleByte p (src .black c Y) (src .accent c Y) k) := by
  rw [encNibble_eq_flatMap, getElem?_flatMap_of_blocks (length_nibbleBlock p src) position hk, nibbleBlock,
    List.getElem?_map, List.getElem?_range hk]
  rfl

end

theorem greyOf_eq_getD (p : Profile) (n : BitVec 4) : greyOf p n = p.grey4Lut.toList.getD n.toNat 0 := by
  have inTable : n.toNat < p.grey4Lut.toList.length := by simp [n.isLt]
  rw [greyOf, List.getD_eq_getElem _ _ inTable, Vector.getElem_toList]

theorem highNibble_toNat (b : Byte) : (b.extractLsb' 4 4).toNat = b.toNat / 16 := by
  rw [BitVec.extractLsb'_toNat, Nat.shiftRight_eq_div_pow]
  omega

theorem lowNibble_toNat (b : Byte) : (b.extractLsb' 0 4).toNat = b.toNat % 16 := by
  rw [BitVec.extractLsb'_toNat, Nat.shiftRight_zero]

/-- Settles O42: position (i, j) is cell i * (w / 8) + j, and each encoder makes one block of bytes of each cell. -/
theorem encodersFollowTheirRules : Obligations.EncodersFollowTheirRules := by
  intro p q R src i j row column n b a
  have position : R.cells[n]? = some (R.x / 8 + j, R.y + i) := R.cells_getElem? row column
  refine ⟨length_encPlain p R src q, length_encGrey p R src, length_encNibble p R src, ?_, ?_, ?_, fun k hk => ?_⟩
  · cases q <;> exact encPlain_getElem? p src _ position
  · rw [← highNibble_toNat, ← greyOf_eq_getD]
    exact encGrey_getElem? p src position (k := 0) (by decide)
  · rw [← lowNibble_toNat, ← greyOf_eq_getD]
    exact encGrey_getElem? p src position (k := 1) (by decide)
  · exact ⟨_, encNibble_getElem? p src position hk, BitVec.extractLsb'_append_eq_left, BitVec.extractLsb'_append_eq_right⟩

end Sys2Proof.Machine
end

section
/-!
PROOFS. The statements of 44_window.md: the window that clipping and aligning make of a request, SET_FULL_WINDOW and
SET_PARTIAL_WINDOW (R230 to R239).
-/

namespace Sys2Proof.Machine

/-! ## Rounding and clamping (R14) -/

theorem floor8_le (v : Int) : floor8 v ≤ v := by
  unfold floor8
  omega

theorem floor8_of_aligned {v : Int} (aligned : v % 8 = 0) : floor8 v = v := by rw [floor8, aligned, Int.sub_zero]

theorem le_ceil8 (v : Int) : v ≤ ceil8 v := by
  unfold ceil8 floor8
  omega

theorem ceil8_of_aligned {v : Int} (aligned : v % 8 = 0) : ceil8 v = v := by
  unfold ceil8 floor8
  omega

theorem clamp_of_mem {v lo hi : Int} (above : lo ≤ v) (below : v ≤ hi) : clamp v lo hi = v := by
  rw [clamp, max_eq_left above, min_eq_left below]

theorem clamp_of_le {v lo hi : Int} (under : v ≤ lo) (range : lo ≤ hi) : clamp v lo hi = lo := by
  rw [clamp, max_eq_right under, min_eq_left range]

theorem clamp_of_ge {v lo hi : Int} (beyond : hi ≤ v) (range : lo ≤ hi) : clamp v lo hi = hi := by
  rw [clamp, max_eq_left (range.trans beyond), min_eq_right beyond]

/-! ## Aligning and clipping (R233 to R237) -/

theorem alignRect_x_le (R : Rect) : (alignRect R).x ≤ R.x := floor8_le R.x

/-- A rectangle without a width gets none. -/
theorem alignRect_w_of_zero {R : Rect} (noWidth : R.w = 0) : (alignRect R).w = 0 := if_pos noWidth

/-- Aligning never narrows a rectangle at its right edge. -/
theorem le_alignRect_end {R : Rect} (width : R.w ≠ 0) : R.x + R.w ≤ (alignRect R).x + (alignRect R).w := by
  have aligned : (alignRect R).w = ceil8 (R.x + R.w) - floor8 R.x := if_neg width
  calc R.x + R.w ≤ ceil8 (R.x + R.w) := le_ceil8 _
    _ = floor8 R.x + (ceil8 (R.x + R.w) - floor8 R.x) := (add_sub_cancel _ _).symm
    _ = (alignRect R).x + (alignRect R).w := by rw [aligned, alignRect]

theorem alignRect_of_aligned {R : Rect} (x_aligned : R.x % 8 = 0) (w_aligned : R.w % 8 = 0) : alignRect R = R := by
  have width : (if R.w = 0 then 0 else ceil8 (R.x + R.w) - floor8 R.x) = R.w := by
    split
    next noWidth => exact noWidth.symm
    next => rw [ceil8_of_aligned (by omega), floor8_of_aligned x_aligned, add_sub_cancel_left]
  rw [alignRect, width, floor8_of_aligned x_aligned]

theorem clipRect_of_inPanel {p : Profile} {R : Rect} (inside : R.inPanel p) : clipRect p R = R := by
  obtain ⟨x_nonneg, -, w_nonneg, -, x_end, y_nonneg, h_nonneg, y_end⟩ := inside
  have x : clamp R.x 0 p.width = R.x := clamp_of_mem x_nonneg (by omega)
  have y : clamp R.y 0 p.height = R.y := clamp_of_mem y_nonneg (by omega)
  rw [clipRect, x, y, max_eq_left w_nonneg, max_eq_left h_nonneg, clamp_of_mem w_nonneg (by omega),
    clamp_of_mem h_nonneg (by omega)]

/-- A request that starts left of the panel and is at least as wide as the panel takes its whole width (R234, R235): the size is
clamped, not intersected. -/
theorem clipRect_of_spanning {p : Profile} {R : Rect} (left : R.x ≤ 0) (wide : p.width ≤ R.w) :
    (clipRect p R).x = 0 ∧ (clipRect p R).w = p.width := by
  have panel : (0 : Int) ≤ p.width := Int.natCast_nonneg _
  have x : clamp R.x 0 p.width = 0 := clamp_of_le left panel
  refine ⟨x, ?_⟩
  rw [clipRect, x, Int.sub_zero, max_eq_left (panel.trans wide)]
  exact clamp_of_ge wide panel

/-! ## The applied window -/

/-- Settles O24: the window lies in the panel by the invariant's lemma, and aligning widens what clipping leaves. -/
theorem appliedWindowLiesInThePanel : Obligations.AppliedWindowLiesInThePanel := by
  intro p r m R wf
  exact ⟨applyWindow_inPanel wf r m R, alignRect_x_le _, le_alignRect_end, alignRect_w_of_zero⟩

/-- At rotation 0 without mirroring a request is clipped and aligned as it stands. -/
theorem applyWindow_upright (p : Profile) (R : Rect) : applyWindow p .r0 false R = alignRect (clipRect p R) := rfl

/-- Settles O25: neither clipping nor aligning changes a valid window, and the request of R239 (a) spans the panel. -/
theorem clippingKeepsValidWindows : Obligations.ClippingKeepsValidWindows := by
  intro p wf
  refine ⟨fun R inside => ?_, fun h => ?_⟩
  · rw [applyWindow_upright, clipRect_of_inPanel inside, alignRect_of_aligned inside.x_aligned inside.w_aligned]
  · obtain ⟨⟨whole, -⟩, -⟩ := Profile.admitted_of_wf wf
    obtain ⟨x, w⟩ := clipRect_of_spanning (p := p) (R := ⟨-5, 0, p.width + 100, h⟩) (by simp) (by simp)
    rw [applyWindow_upright, alignRect_of_aligned (by rw [x]; decide) (by rw [w]; omega)]
    exact ⟨x, w⟩

/-! ## The window commands in a pass -/

/-- After INIT the check for a pass is the first of R285 that holds of a window command in a pass. -/
theorem State.refusal_windowInPass {s : State} {i : Instr} (inited : s.inited = true) (window : isWindowCommand i = true)
    (pass : s.cursor ≠ none) : s.refusal i = some .passlock := by
  have noColor : i.color? = none := by
    cases i with
    | setFullWindow | setPartialWindow => rfl
    | _ => cases window
  simp [State.refusal, inited, noColor, window, s.active_eq, pass]

/-- In a pass a window command sets DIAG bit 5 and does nothing else (R231). -/
theorem exec_windowInPass {s : State} {i : Instr} (inited : s.inited = true) (window : isWindowCommand i = true)
    (pass : s.cursor ≠ none) : exec i s = .next { s with diag := s.diag ||| 0x20#6 } := by
  rw [exec_eq_perform, State.perform_of_refused _ (State.refusal_windowInPass inited window pass)]
  rfl

/-- Settles O22: both are window commands. -/
theorem windowCommandsAreLockedInAPass : Obligations.WindowCommandsAreLockedInAPass :=
  fun _ inited pass => ⟨exec_windowInPass inited rfl pass, exec_windowInPass inited rfl pass⟩

/-! ## SET_FULL_WINDOW -/

/-- Outside a pass no check of R285 refuses SET_FULL_WINDOW after INIT. -/
theorem State.refusal_setFullWindow {s : State} (inited : s.inited = true) (noPass : s.cursor = none) :
    s.refusal .setFullWindow = none := by
  simp [State.refusal_eq_none_iff, inited, noPass, s.active_eq, Instr.color?, isImageCommand]

/-- The window registers while the mode is FULL (R29, R36, R37). -/
theorem State.windowViews_of_full {s : State} (full : s.winMode = .full) :
    (s.busRead 4 0x14).getLsbD 5 = false ∧ s.busRead 4 0x24 = 0x00000000#32 ∧
      s.busRead 4 0x28 = BitVec.ofNat 16 s.profile.height ++ BitVec.ofNat 16 s.profile.width := by
  have winXY : s.busRead 4 0x24 = s.winXYReg := s.busRead_offset .winXY
  have winWH : s.busRead 4 0x28 = s.winWHReg := s.busRead_offset .winWH
  have winPart : s.status.getLsbD 5 = s.winMode.isPartial := s.status_getLsbD 5
  rw [s.busRead_status, winPart, winXY, winWH, State.winXYReg, State.winWHReg, full]
  exact ⟨rfl, rfl, rfl⟩

/-- Settles O21: an accepted SET_FULL_WINDOW writes the mode alone, and the registers show it; in a pass it is locked. -/
theorem setFullWindowResult : Obligations.SetFullWindowResult := by
  intro s inited
  refine ⟨fun noPass => ?_, exec_windowInPass inited rfl⟩
  have answer : exec .setFullWindow s = .next { s with winMode := .full } := by
    rw [exec_eq_perform, State.perform_of_accepted _ (State.refusal_setFullWindow inited noPass)]
    rfl
  exact ⟨_, answer, rfl, State.windowViews_of_full rfl⟩

/-! ## SET_PARTIAL_WINDOW -/

/-- Outside a pass the profile alone decides whether SET_PARTIAL_WINDOW is refused after INIT (R236). -/
theorem State.refusal_setPartialWindow {s : State} (inited : s.inited = true) (noPass : s.cursor = none) :
    s.refusal .setPartialWindow = if s.profile.partialOk = false then some .reject else none := by
  simp [State.refusal, inited, noPass, s.active_eq, Instr.color?, isImageCommand]

theorem transformRect_eq_byRule (p : Profile) (r : Rotation) (m : Bool) (R : Rect) :
    transformRect p r m R = rectByRule p r m R := by
  cases m <;> cases r <;> rfl

theorem opRect_eq_operandRect (s : State) : s.opRect = operandRect s := rfl

/-- Settles O23: PASSLOCK in a pass, REJECT without PARTIAL_OK, and otherwise the transform, the clip and the alignment that the
rules write out. -/
theorem setPartialWindowResult : Obligations.SetPartialWindowResult := by
  intro s inited
  refine ⟨exec_windowInPass inited rfl, fun noPass without => ?_, fun noPass allowed => ?_⟩
  · have refused : s.refusal .setPartialWindow = some .reject :=
      (State.refusal_setPartialWindow inited noPass).trans (if_pos without)
    rw [exec_eq_perform, State.perform_of_refused _ refused]
    rfl
  · have accepted : s.refusal .setPartialWindow = none :=
      (State.refusal_setPartialWindow inited noPass).trans (if_neg (by simp [allowed]))
    rw [exec_eq_perform, State.perform_of_accepted _ accepted, commandEffect, applyWindow, opRect_eq_operandRect,
      transformRect_eq_byRule]
    rfl

end Sys2Proof.Machine
end

section
/-!
PROOFS. The statements of 45_bulk_power.md: INIT (R250), CLEAR_PANEL (R254, R255), what bulk commands leave alone (R256), the image
clip and the image bytes (R260 to R264), WRITE_IMAGE (R262) and DRAW_IMAGE (R266).
-/

namespace Sys2Proof.Machine

/-! ## INIT -/

theorem exec_init (s : State) : exec .init s = .next s.initialise := by
  rw [exec_eq_perform, State.perform_of_accepted _ s.refusal_init]
  rfl

/-- With BUSY back at 0, STATUS after INIT shows INITED alone (R29, R250). -/
theorem status_initialise (s : State) : ({ s.initialise with busy := false } : State).status = 0x00000040#32 := by
  show 0#24 ++ BitVec.ofBool false ++ BitVec.ofBool true ++ BitVec.ofBool false ++ BitVec.ofBool false ++
    BitVec.ofBool false ++ BitVec.ofBool false ++ BitVec.ofBool false ++ BitVec.ofBool false = 0x40#32
  decide

/-- Without a pass the low half of PAGE reads -1 (R34). -/
theorem State.pageView_of_noPass {s : State} (noPass : s.cursor = none) :
    (s.busRead 4 0x1C).extractLsb' 0 16 = 0xFFFF#16 := by
  have page : s.busRead 4 0x1C = s.pageReg := s.busRead_offset .page
  rw [page, State.pageReg, noPass]
  exact BitVec.extractLsb'_append_eq_right

/-- Settles O19: INIT passes every refusal check, its effect writes the ten fields out, and the registers show them. -/
theorem initResult : Obligations.InitResult := by
  intro s
  obtain ⟨-, winXY, winWH⟩ := State.windowViews_of_full (s := s.initialise) rfl
  exact ⟨s.initialise, exec_init s, rfl, blankBuffer_of_nil rfl rfl, (State.busRead_status _).trans (status_initialise s),
    State.pageView_of_noPass rfl, winXY, winWH⟩

/-! ## Bulk commands and the pass (R256) -/

/-- The commands that R256 is about. -/
def isBulkCommand (i : Instr) : Prop :=
  i = .powerOff ∨ (∃ b a, i = .clearPanel b a) ∨ (∃ f, i = .writeImage f) ∨ ∃ f, i = .drawImage f

/-- `s` with another pass state and another content of the frame buffer. -/
def State.withPass (cur : Option Nat) (ph : Phase) (pp : Bool) (pw : Rect) (co : Bool) (b a : Memory) (s : State) : State :=
  { s with cursor := cur, phase := ph, passPartial := pp, passWin := pw, cont := co, fbBlack := b, fbAccent := a }

section
variable (cur : Option Nat) (ph : Phase) (pp : Bool) (pw : Rect) (co : Bool) (b a : Memory)

theorem withPass_panelBlind : PanelBlind (State.withPass cur ph pp pw co b a) := fun _ _ => rfl

/-- Bulk commands act on the panel side, and image commands read the latch and the bitmap besides (R256). -/
theorem commandEffect_ignores_withPass {i : Instr} (bulk : isBulkCommand i) :
    Ignores (commandEffect i) (State.withPass cur ph pp pw co b a) := by
  have blind := withPass_panelBlind cur ph pp pw co b a
  rcases bulk with rfl | ⟨bpat, apat, rfl⟩ | ⟨f, rfl⟩ | ⟨f, rfl⟩
  · exact blind.ignored fun _ => OnPanel.powerOffIfOn
  · exact blind.ignored fun _ => OnPanel.clearPanel bpat apat
  · exact blind.putImage (fun _ => rfl) fun _ => rfl
  · exact blind.showImage (fun _ => rfl) fun _ => rfl

/-- No refusal check but that of the window commands looks at the pass (R285). -/
theorem refusal_withPass {i : Instr} (bulk : isBulkCommand i) (s : State) :
    (s.withPass cur ph pp pw co b a).refusal i = s.refusal i := by
  have noWindow : isWindowCommand i = false := by
    rcases bulk with rfl | ⟨_, _, rfl⟩ | ⟨_, rfl⟩ | ⟨_, rfl⟩ <;> rfl
  simp only [State.refusal, noWindow, Bool.false_eq_true, false_and, if_false]
  rfl

theorem exec_withPass {i : Instr} (bulk : isBulkCommand i) {s t : State} (answer : exec i s = .next t) :
    exec i (s.withPass cur ph pp pw co b a) = .next (t.withPass cur ph pp pw co b a) := by
  obtain ⟨t', answer', answerWith⟩ := exec_of_ignores (commandEffect_ignores_withPass cur ph pp pw co b a bulk)
    (fun _ _ => rfl) (refusal_withPass cur ph pp pw co b a bulk s)
  cases answer.symm.trans answer'
  exact answerWith

end

/-- Of the state apart from the panel side a bulk command writes nothing. -/
theorem exec_bulk_frame {i : Instr} (bulk : isBulkCommand i) {s t : State} (answer : exec i s = .next t) :
    Frame State.panelFrom s t := by
  have writes := exec_frame answer
  rcases bulk with rfl | ⟨_, _, rfl⟩ | ⟨_, rfl⟩ | ⟨_, rfl⟩ <;> exact writes

theorem exec_total (i : Instr) (s : State) : ∃ t, exec i s = .next t := by
  rcases exec_cases i s with ⟨-, answer⟩ | ⟨_, -, answer⟩ <;> exact ⟨_, answer⟩

/-- Settles O60: bulk commands write the panel side only, and no change of the pass state or the buffer shows there. -/
theorem bulkCommandsLeaveThePassAlone : Obligations.BulkCommandsLeaveThePassAlone := by
  intro s i bulk
  obtain ⟨t, answer⟩ := exec_total i s
  have frame := exec_bulk_frame bulk answer
  exact ⟨t, answer, frame.field State.cursor, frame.field State.phase, frame.field State.passPartial,
    frame.field State.passWin, frame.field State.cont, frame.field State.fbBlack, frame.field State.fbAccent,
    fun cur ph pp pw co b a => exec_withPass cur ph pp pw co b a bulk answer⟩

/-! ## CLEAR_PANEL -/

theorem exec_clearPanel {s : State} (inited : s.inited = true) (bpat apat : Byte) :
    exec (.clearPanel bpat apat) s = .next (s.clearPanel bpat apat) := by
  have accepted : s.refusal (.clearPanel bpat apat) = none := by
    simp [State.refusal_eq_none_iff, inited, Instr.color?, isWindowCommand, isImageCommand]
  rw [exec_eq_perform, State.perform_of_accepted _ accepted]
  rfl

namespace PanelRun

variable {s t : State} {exp : List Expected} {w n : Bool}

/-- The windowed writes leave the power state alone (R265). -/
theorem emitPlanes (h : PanelRun s t exp w n) (R : Rect) (src : ByteSource) :
    PanelRun s (t.emitPlanes R src) (exp ++ expectPlanes s.profile R src) w n := by
  rw [← h.profile]
  exact h.trans_panelStep (emitPlanes_panelStep t R src) (emitPlanes_needReset t R src)

/-- A refresh of a panel with no reset pulse due (R196). -/
theorem refresh (h : PanelRun s t exp w false) (m : Mode) :
    PanelRun s (t.refresh m) (exp ++ expectSeq s.profile (s.profile.seqRefresh m)) w false := by
  have flag : (t.refresh m).needReset = t.needReset := by
    rw [State.refresh, runSeq_needReset_eq, h.needReset, Bool.false_and]
  rw [← h.profile]
  exact h.trans_panelStep (refresh_panelStep t m) flag

/-- Power off at the end of a run that leaves the panel on with no reset pulse due (R195). -/
theorem thenPowerOff (h : PanelRun s t exp true false) :
    PanelRun s t.powerOffIfOn (exp ++ expectSeq s.profile s.profile.seqPowerOff) false s.profile.wakeNeedsReset := by
  have off := powerOffIfOn h.pwr
  rw [h.profile, h.needReset, Bool.false_and, Bool.false_or] at off
  exact h.trans off

theorem clearPanel (s : State) (bpat apat : Byte) :
    PanelRun s (s.clearPanel bpat apat)
      (expectInit s.profile s.needReset s.pwr .full ++ expectPlanes s.profile (fullRect s.profile) (patByte bpat apat) ++
        expectSeq s.profile s.profile.seqRefreshFull ++ expectSeq s.profile s.profile.seqPowerOff)
      false s.profile.wakeNeedsReset := by
  have written := (initPanel s .full).emitPlanes (fullRect s.profile) (patByte bpat apat)
  exact (written.refresh .full).thenPowerOff

end PanelRun

/-- Settles O46: CLEAR_PANEL is never refused after INIT; it runs the init, the writes, the refresh and the power-off. -/
theorem clearPanelResult : Obligations.ClearPanelResult := by
  intro s bpat apat inited
  have run := PanelRun.clearPanel s bpat apat
  exact ⟨s.clearPanel bpat apat, exec_clearPanel inited bpat apat, run.observed, run.writes⟩

/-! ## Image commands -/

section
variable {s : State} {i : Instr}

/-- After INIT the rectangle check is the only one of R285 that can refuse an image command (R262, R266). -/
theorem State.refusal_image (inited : s.inited = true) (image : isImageCommand i = true) :
    s.refusal i = if s.profile.partialOk = false ∧ s.opRect ≠ fullRect s.profile then some .reject else none := by
  cases i with
  | writeImage f | drawImage f => simp [State.refusal, inited, Instr.color?, isWindowCommand, isImageCommand]
  | _ => cases image

theorem exec_image_of_reject (inited : s.inited = true) (image : isImageCommand i = true)
    (without : s.profile.partialOk = false) (cut : operandRect s ≠ ⟨0, 0, s.profile.width, s.profile.height⟩) :
    exec i s = .next { s with diag := s.diag ||| 0x02#6 } := by
  have refused : s.refusal i = some .reject := (State.refusal_image inited image).trans (if_pos ⟨without, cut⟩)
  rw [exec_eq_perform, State.perform_of_refused _ refused]
  rfl

theorem exec_image_of_fit (inited : s.inited = true) (image : isImageCommand i = true)
    (fits : s.profile.partialOk = true ∨ operandRect s = ⟨0, 0, s.profile.width, s.profile.height⟩) :
    exec i s = .next (commandEffect i s) := by
  have accepted : s.refusal i = none := (State.refusal_image inited image).trans <| if_neg fun ⟨without, cut⟩ =>
    fits.elim (fun allowed => by simp [without] at allowed) cut
  rw [exec_eq_perform, State.perform_of_accepted _ accepted]

end

namespace PanelRun

variable {s t : State} {exp : List Expected} {w n : Bool}

/-- A panel-side run changes of an image's bytes the draw number only (R264; log 7). -/
theorem imgByte (h : PanelRun s t exp w n) (f : ImageFlags) :
    t.imgByte f = ({ s with draws := t.draws } : State).imgByte f :=
  (congrArg (fun u : State => u.imgByte f) h.writes :)

/-- No event tells the draw number. -/
theorem withDraws (h : PanelRun s t exp w n) (d : Nat) : PanelRun s { t with draws := d } exp w n where
  observed := h.observed.congr rfl rfl rfl rfl
  writes := congrArg (fun u : State => { u with draws := d }) h.writes

/-- The body of the image commands: the init, and the writes of a rectangle that is not empty (R262). -/
theorem putImage (s : State) (f : ImageFlags) :
    PanelRun s (s.putImage f) (expectImage s (s.initPanel s.imgMode).draws f) true false := by
  have init : PanelRun s (s.initPanel s.imgMode) (expectInit s.profile s.needReset s.pwr (imageMode s.profile)) true
    false := initPanel s s.imgMode
  simp only [State.putImage, expectImage, ← init.imgByte, ← opRect_eq_operandRect, ← Rect.isEmpty_iff]
  split
  · rwa [List.append_nil]
  · exact (init.emitPlanes _ _).withDraws _

/-- DRAW_IMAGE on a profile with PARTIAL_OK (R266). -/
theorem showImage_partial (allowed : s.profile.partialOk = true) (f : ImageFlags) :
    PanelRun s (s.showImage f)
      (expectImage s (s.initPanel s.imgMode).draws f ++ expectSeq s.profile s.profile.seqRefreshPartial) true false := by
  rw [State.showImage, if_pos allowed]
  exact (putImage s f).refresh .partialMode

/-- DRAW_IMAGE on a profile without PARTIAL_OK (R266). -/
theorem showImage_full (without : s.profile.partialOk = false) (f : ImageFlags) :
    PanelRun s (s.showImage f)
      (expectImage s (s.initPanel s.imgMode).draws f ++ expectSeq s.profile s.profile.seqRefreshFull ++
        expectSeq s.profile s.profile.seqPowerOff) false s.profile.wakeNeedsReset := by
  rw [State.showImage, if_neg (by simp [without])]
  exact ((putImage s f).refresh .full).thenPowerOff

end PanelRun

/-- Settles O47: an accepted WRITE_IMAGE is the body of the image commands. -/
theorem writeImageResult : Obligations.WriteImageResult := by
  intro s f inited
  refine ⟨exec_image_of_reject inited rfl, fun fits => ?_⟩
  have run := PanelRun.putImage s f
  exact ⟨s.putImage f, _, exec_image_of_fit inited rfl fits, run.observed, run.writes⟩

/-- Settles O48: an accepted DRAW_IMAGE goes on from the body of the image commands as PARTIAL_OK says. -/
theorem drawImageResult : Obligations.DrawImageResult := by
  intro s f inited
  refine ⟨exec_image_of_reject inited rfl, fun allowed => ?_, fun without whole => ?_⟩
  · have run := PanelRun.showImage_partial allowed f
    exact ⟨s.showImage f, _, exec_image_of_fit inited rfl (.inl allowed), run.observed, run.writes⟩
  · have run := PanelRun.showImage_full without f
    exact ⟨s.showImage f, _, exec_image_of_fit inited rfl (.inr whole), run.observed, run.writes⟩

/-! ## The image clip (R263)

Columns are those of the bitmap moved to a byte boundary and widened to whole bytes. -/

/-- The first column that the widened bitmap does not reach. -/
def imgRight (R : Rect) : Int := floor8 R.x + bitmapStride R.w * 8

theorem floor8_mod (v : Int) : floor8 v % 8 = 0 := by
  unfold floor8
  omega

theorem imgRight_mod (R : Rect) : imgRight R % 8 = 0 := by
  have aligned := floor8_mod R.x
  unfold imgRight
  omega

section
variable (p : Profile) (R : Rect)

theorem imgDx_aligned : imgDx R % 8 = 0 ∧ 0 ≤ imgDx R := by
  have aligned := floor8_mod R.x
  unfold imgDx
  omega

theorem imgDy_nonneg : 0 ≤ imgDy R := by
  unfold imgDy
  omega

theorem imgWindow_x : (imgWindow p R).x = max (floor8 R.x) 0 := rfl

theorem imgWindow_y : (imgWindow p R).y = max R.y 0 := rfl

theorem imgWindow_w : (imgWindow p R).w = max 0 (min (imgRight R) p.width - max (floor8 R.x) 0) := rfl

theorem imgWindow_h : (imgWindow p R).h = max 0 (min (R.y + R.h) p.height - max R.y 0) := rfl

theorem imgWindow_x_mod : (imgWindow p R).x % 8 = 0 := by
  have aligned := floor8_mod R.x
  rw [imgWindow_x]
  omega

variable {p}

theorem imgWindow_w_mod (whole : p.width % 8 = 0) : (imgWindow p R).w % 8 = 0 := by
  have left := floor8_mod R.x
  have right := imgRight_mod R
  rw [imgWindow_w]
  omega

/-- The clipped rectangle's columns are those of the widened bitmap that lie on the panel. -/
theorem imgWindow_column_iff (X : Int) :
    (imgWindow p R).x ≤ X ∧ X < (imgWindow p R).x + (imgWindow p R).w ↔
      (0 ≤ X ∧ X < p.width) ∧ floor8 R.x ≤ X ∧ X < imgRight R := by
  rw [imgWindow_x, imgWindow_w]
  omega

/-- Its rows are those of the bitmap that lie on the panel. -/
theorem imgWindow_row_iff (Y : Int) :
    (imgWindow p R).y ≤ Y ∧ Y < (imgWindow p R).y + (imgWindow p R).h ↔
      (0 ≤ Y ∧ Y < p.height) ∧ R.y ≤ Y ∧ Y < R.y + R.h := by
  rw [imgWindow_y, imgWindow_h]
  omega

variable {R}

theorem imgWindow_inPanel (whole : p.width % 8 = 0) (columns : (imgWindow p R).w ≠ 0) (rows : (imgWindow p R).h ≠ 0) :
    (imgWindow p R).inPanel p where
  x_nonneg := le_max_right _ _
  x_aligned := imgWindow_x_mod p R
  w_nonneg := le_max_left _ _
  w_aligned := imgWindow_w_mod R whole
  x_end := by
    rw [imgWindow_w] at columns
    rw [imgWindow_x, imgWindow_w]
    omega
  y_nonneg := le_max_right _ _
  h_nonneg := le_max_left _ _
  y_end := by
    rw [imgWindow_h] at rows
    rw [imgWindow_y, imgWindow_h]
    omega

end

/-- Settles O49: the clipped rectangle meets the widened bitmap's columns and rows with the panel's. -/
theorem imageClipCutsToThePanel : Obligations.ImageClipCutsToThePanel := by
  intro p R wf
  obtain ⟨⟨whole, -⟩, -⟩ := Profile.admitted_of_wf wf
  obtain ⟨dx_aligned, dx_nonneg⟩ := imgDx_aligned R
  refine ⟨imgWindow_x_mod p R, imgWindow_w_mod R whole, dx_aligned, dx_nonneg, imgDy_nonneg R, imgWindow_inPanel whole,
    fun X Y left right top bottom => ?_⟩
  have rightEdge : R.x - R.x % 8 + 8 * (if 0 < R.w then (R.w + 7) / 8 else 0) = imgRight R := by
    rw [imgRight, floor8, bitmapStride, Int.mul_comm 8]
  have covered : (imgWindow p R).has X Y ↔ _ :=
    and_assoc.symm.trans (and_congr (imgWindow_column_iff R X) (imgWindow_row_iff R Y))
  rw [rightEdge, covered, floor8]
  exact ⟨fun ⟨⟨_, columns⟩, _, rows⟩ => ⟨columns.1, columns.2, rows⟩,
    fun ⟨start, stop, rows⟩ => ⟨⟨⟨left, right⟩, start, stop⟩, ⟨top, bottom⟩, rows⟩⟩

/-! ## The image bytes (R264) -/

section
variable {p : Profile} {R : Rect} {c Y : Int}

theorem bitmapStride_of_pos {w : Int} (columns : 0 < w) : bitmapStride w = (w + 7) / 8 := if_pos columns

theorem bitmapStride_of_nonpos {w : Int} (none : w ≤ 0) : bitmapStride w = 0 := if_neg (Int.not_lt.2 none)

theorem eight_mul_ediv_eq_floor8 (v : Int) : 8 * (v / 8) = floor8 v := by
  unfold floor8
  omega

/-- A position of the clipped rectangle is on a row and on a byte column of the bitmap. -/
theorem bitmap_of_mem_cells (position : (c, Y) ∈ (imgWindow p R).cells) :
    (R.y ≤ Y ∧ Y < R.y + R.h) ∧ R.x / 8 ≤ c ∧ c - R.x / 8 < bitmapStride R.w := by
  obtain ⟨left, right, top, bottom⟩ := (Rect.mem_cells _ c Y).1 position
  have aligned := imgWindow_x_mod p R
  have firstByte := eight_mul_ediv_eq_floor8 R.x
  have height : 0 ≤ (imgWindow p R).h := le_max_left _ _
  obtain ⟨-, rows⟩ := (imgWindow_row_iff (p := p) R Y).1 ⟨top, by omega⟩
  obtain ⟨-, start, stop⟩ := (imgWindow_column_iff (p := p) R (8 * c)).1 (by omega)
  rw [imgRight] at stop
  exact ⟨rows, by omega, by omega⟩

/-- The bitmap row of a panel row, counted from the bitmap's own top or bottom edge. -/
theorem imgRow_eq (p : Profile) (f : ImageFlags) (R : Rect) (Y : Int) :
    imgRow p f R Y = if f.mirrorY then R.h - 1 - (Y - R.y) else Y - R.y := by
  have fromTop : Y - (imgWindow p R).y + imgDy R = Y - R.y := by
    rw [imgWindow_y, imgDy]
    omega
  rw [imgRow, fromTop]

/-- The byte of a bitmap row at a byte column of the panel. -/
theorem imgByteColumn_eq (p : Profile) (R : Rect) (c : Int) :
    c - (imgWindow p R).x / 8 + imgDx R / 8 = c - R.x / 8 := by
  have aligned := floor8_mod R.x
  have firstByte := eight_mul_ediv_eq_floor8 R.x
  rw [imgWindow_x, imgDx]
  omega

/-- The address is the base, and the row and the byte of the bitmap (R264). -/
theorem imgAddr_eq (s : State) (f : ImageFlags) (q : Plane) (c Y : Int) :
    s.imgAddr f q c Y = BitVec.ofInt 32 ((s.opSrc q).toNat +
      imgRow s.profile f (operandRect s) Y * bitmapStride (operandRect s).w + (c - (operandRect s).x / 8)) := by
  rw [← imgByteColumn_eq s.profile, ← Int.add_assoc]
  rfl

theorem opSrc_eq (s : State) (q : Plane) : s.opSrc q = match q with | .black => s.op.argSrc0 | .accent => s.op.argSrc1 := by
  cases q <;> rfl

/-- The row of a position is one of the bitmap's, from whichever edge it is counted. -/
theorem imgRow_mem (p : Profile) (f : ImageFlags) (row : R.y ≤ Y ∧ Y < R.y + R.h) :
    0 ≤ imgRow p f R Y ∧ imgRow p f R Y < R.h := by
  rw [imgRow_eq]
  split <;> omega

end

/-- Settles O50: a position of the clipped rectangle is on a row and a byte of the bitmap, and the address is theirs. -/
theorem imageBytesComeFromTheBitmap : Obligations.ImageBytesComeFromTheBitmap := by
  intro s f q c Y _ position
  obtain ⟨row, firstByte, lastByte⟩ := bitmap_of_mem_cells position
  obtain ⟨row_nonneg, row_lt⟩ := imgRow_mem s.profile f row
  have columns : 0 < (operandRect s).w := by
    by_contra none
    rw [bitmapStride_of_nonpos (Int.not_lt.1 none)] at lastByte
    omega
  have address := imgAddr_eq s f q c Y
  rw [bitmapStride_of_pos columns] at address lastByte
  refine ⟨imgRow s.profile f (operandRect s) Y, c - (operandRect s).x / 8, s.opSrc q, imgRow_eq _ _ _ _, row_nonneg, row_lt,
    rfl, by omega, lastByte, opSrc_eq s q, ?_⟩
  rw [← address]
  rfl

end Sys2Proof.Machine
end

section
/-!
PROOFS. The statements of 60_exceptions.md: no step stops the machine (R280), the refusal checks and their order (R285), and that
a busy wait that times out changes nothing of the commit (R286).
-/

namespace Sys2Proof.Machine

/-! ## No step stops (R280) -/

theorem runLatched_total (s : State) : ∃ t, s.runLatched = .next t := by
  unfold State.runLatched
  cases decode s.op.cmd with
  | ok i => exact exec_total i s
  | error _ => exact ⟨_, rfl⟩

theorem engineMove_total (s : State) : ∃ t, s.engineMove = .next t := by
  unfold State.engineMove
  split
  · obtain ⟨t, answer⟩ := runLatched_total s
    exact ⟨t.commit, by rw [answer]; rfl⟩
  · exact ⟨s, rfl⟩

theorem accept_total (s : State) (i : Input) : ∃ t, s.accept i = .next t := by
  cases i with
  | engineTurn => exact engineMove_total s
  | hostWrite | hostRead | hostStore | hardReset => exact ⟨_, rfl⟩

/-- Settles O53: a step is the engine's turn or one input, and every command answers a next state. -/
theorem noStepEverStops : Obligations.NoStepEverStops := by
  intro s
  unfold step State.move
  split
  · exact engineMove_total s
  · exact accept_total _ _

/-! ## The refusal checks, read off the latched word (R285) -/

/-- A word that does not decode carries a reserved OP (R88). -/
theorem opField_not_mem_of_error {v : Word} {e : DecodeError} (h : decode v = .error e) : opField v ∉ definedOpcodes := by
  intro defined
  simp only [definedOpcodes, List.mem_cons, List.not_mem_nil, or_false] at defined
  rcases defined with op | op | op | op | op | op | op | op | op | op | op | op | op
  all_goals simp [decode, op] at h

section
variable (i : Instr)

theorem opcode_mem_definedOpcodes : i.opcode ∈ definedOpcodes := by cases i <;> simp [Instr.opcode, definedOpcodes]

theorem opcode_eq_init_iff : i.opcode = 0x01#8 ↔ i = .init := by cases i <;> simp [Instr.opcode]

theorem opcode_eq_setPartialWindow_iff : i.opcode = 0x04#8 ↔ i = .setPartialWindow := by
  cases i <;> simp [Instr.opcode]

theorem opcode_window_iff : i.opcode = 0x03#8 ∨ i.opcode = 0x04#8 ↔ isWindowCommand i = true := by
  cases i <;> simp [Instr.opcode, isWindowCommand]

theorem opcode_image_iff : i.opcode = 0x41#8 ∨ i.opcode = 0x42#8 ↔ isImageCommand i = true := by
  cases i <;> simp [Instr.opcode, isImageCommand]

variable {i}

/-- COLOR = 3 in a word of format C is the reserved colour in its command (R85). -/
theorem opcode_color_reserved_iff {v : Word} (fields : i.HasFields v) :
    (i.opcode = 0x10#8 ∨ i.opcode = 0x11#8 ∨ i.opcode = 0x12#8) ∧ v.extractLsb' 8 2 = 3#2 ↔ i.color? = some .reserved := by
  cases i with
  | fill c | setPixel c | setPixelPhys c =>
    have reserved : c = .reserved ↔ v.extractLsb' 8 2 = 3#2 := by
      rw [← (fields : colorField v = c)]
      exact colorOfBits_eq_iff _ .reserved
    simp [Instr.opcode, Instr.color?, reserved]
  | _ => simp [Instr.opcode, Instr.color?]

end

theorem operandRect_eq_full_iff (s : State) :
    s.opRect = fullRect s.profile ↔
      (operandRect s).x = 0 ∧ (operandRect s).y = 0 ∧ (operandRect s).w = s.profile.width ∧
        (operandRect s).h = s.profile.height := by
  rw [opRect_eq_operandRect, fullRect, ← Rect.mk.injEq]

/-- The checks of R285 on a latched command are the engine's. -/
theorem refusalByRule_of_decode {s : State} {i : Instr} (h : decode s.op.cmd = .ok i) :
    refusalByRule s = (s.refusal i).map Diag.mask := by
  obtain ⟨op, fields⟩ := (decode_eq_ok_iff_opcode_and_fields _ _).1 h
  have opcode : s.op.cmd.extractLsb' 0 8 = i.opcode := op
  have active : s.active = true ↔ s.cursor ≠ none := by rw [State.active, Option.isSome_iff_ne_none]
  have full := operandRect_eq_full_iff s
  simp only [operandRect] at full
  simp only [refusalByRule, opcode, opcode_mem_definedOpcodes, opcode_color_reserved_iff fields, opcode_window_iff, opcode_image_iff,
    not_true, if_false]
  simp only [State.refusal, opcode_eq_init_iff, opcode_eq_setPartialWindow_iff, active, full, apply_ite (Option.map Diag.mask),
    ne_eq]
  rfl

theorem refusalByRule_of_error {s : State} {e : DecodeError} (h : decode s.op.cmd = .error e) :
    refusalByRule s = some Diag.badcmd.mask := if_pos (opField_not_mem_of_error h)

/-- At its turn a busy engine commits the answer of the latched word (R51, R82). -/
theorem step_of_busy {s t : State} (busy : s.busy = true) (noInput : s.inputs = []) (answer : s.runLatched = .next t) :
    step s = .next { t with busy := false, raced := [] } := by
  simp only [step, State.move, noInput, State.engineMove, busy, if_true, answer]
  rfl

/-! ## Only TIMEOUT is raised while a command runs (R284, R285) -/

/-- From `s` to `t` no DIAG bit changes but perhaps TIMEOUT, which may be set. -/
def OnlyTimeout (s t : State) : Prop := t.diag = s.diag ∨ t.diag = s.diag ||| 0x01#6

namespace OnlyTimeout

variable {s t u : State}

theorem of_eq (h : t.diag = s.diag) : OnlyTimeout s t := .inl h

theorem trans (h : OnlyTimeout s t) (k : OnlyTimeout t u) : OnlyTimeout s u := by
  unfold OnlyTimeout at *
  rcases k with k | k <;> rcases h with h | h <;> simp [k, h, BitVec.or_assoc]

/-- A busy wait is the only event that shows in DIAG. -/
theorem of_observed {exp : List Expected} (h : Observed s t exp) : OnlyTimeout s t := by
  obtain ⟨evs, carried⟩ := h
  rw [OnlyTimeout, carried.diag, timeoutBits]
  split
  · exact .inr rfl
  · exact .inl BitVec.or_zero

theorem powerOffIfOn (s : State) : OnlyTimeout s s.powerOffIfOn := by
  cases on : s.pwr with
  | true => exact of_observed (powerOffIfOn_on s on).1
  | false => exact of_eq (by rw [powerOffIfOn_of_off on])

theorem refresh (s : State) (m : Mode) : OnlyTimeout s (s.refresh m) := of_observed (refresh_panelStep s m).observed

theorem finalRefresh (s : State) : OnlyTimeout s s.finalRefresh := by
  unfold State.finalRefresh
  split
  · exact refresh s _
  · exact (refresh s _).trans (powerOffIfOn _)

theorem leavePage (s : State) (n : Nat) : OnlyTimeout s (s.leavePage n) := by
  unfold State.leavePage
  split
  · exact of_eq rfl
  · split
    · exact of_eq rfl
    · exact finalRefresh s

theorem advance (s : State) : OnlyTimeout s s.advance := by
  unfold State.advance
  split
  · exact of_eq rfl
  · exact (of_observed (PanelRun.streamPage s _).observed).trans (leavePage _ _)

theorem showImage (s : State) (f : ImageFlags) : OnlyTimeout s (s.showImage f) := by
  have drawn (m : Mode) : OnlyTimeout s ((s.putImage f).refresh m) :=
    (of_observed (PanelRun.putImage s f).observed).trans (refresh _ m)
  unfold State.showImage
  split
  · exact drawn _
  · exact (drawn _).trans (powerOffIfOn _)

theorem commandEffect (i : Instr) (s : State) : OnlyTimeout s (commandEffect i s) := by
  cases i with
  | init | setRotation | setFullWindow | setPartialWindow => exact of_eq rfl
  | fill c => exact of_eq ((fillWith_frame s c).field State.diag)
  | setPixel c => exact of_eq ((plotLogical_frame s _ _ c).field State.diag)
  | setPixelPhys c => exact of_eq ((plotPhys_frame s _ _ c).field State.diag)
  | beginFrame =>
    have ran := of_observed (panelRun_of_beginPass s).observed
    exact ran
  | advancePage => exact advance s
  | powerOff => exact powerOffIfOn s
  | clearPanel b a => exact of_observed (PanelRun.clearPanel s b a).observed
  | writeImage f => exact of_observed (PanelRun.putImage s f).observed
  | drawImage f => exact showImage s f

end OnlyTimeout

/-- Settles O7: the checks by the rule are the engine's; an accepted command has its effect. -/
theorem refusalChecksInOrder : Obligations.RefusalChecksInOrder := by
  intro s busy noInput
  cases decoded : decode s.op.cmd with
  | error e =>
    have answer : s.runLatched = .next (s.raise .badcmd) := by rw [State.runLatched, decoded]
    rw [refusalByRule_of_error decoded]
    refine ⟨?_, nofun⟩
    rintro m ⟨⟩
    exact step_of_busy busy noInput answer
  | ok i =>
    have latched : s.runLatched = exec i s := by rw [State.runLatched, decoded]
    rw [refusalByRule_of_decode decoded]
    rcases exec_cases i s with ⟨accepted, answer⟩ | ⟨d, refused, answer⟩
    · rw [accepted]
      exact ⟨nofun, fun _ => ⟨i, _, rfl, answer, step_of_busy busy noInput (latched.trans answer),
        OnlyTimeout.commandEffect i s⟩⟩
    · rw [refused]
      refine ⟨?_, nofun⟩
      rintro m ⟨⟩
      exact step_of_busy busy noInput (latched.trans answer)

end Sys2Proof.Machine
end

section
/-!
PROOFS. The statement of 60_exceptions.md that whatever the busy samples are, a command commits the same state (R286): two runs
are followed side by side, and every operation keeps them alike.
-/

namespace Sys2Proof.Machine

/-! ## What the expected events tell of those that are sent -/

/-- A wire event without the answer of its busy wait and the bytes of its burst. -/
def WireEvent.outline : WireEvent → WireEvent
  | .busy _ _ => .busy .ready 0
  | .data _ => .data []
  | .cmd b => .cmd b
  | .reset lo hi => .reset lo hi
  | .delay ms => .delay ms

/-- An event that meets the expectation. -/
def Expected.sample : Expected → WireEvent
  | .event e => e
  | .wait => .busy .ready 0

/-- What does not look at busy answers is told by the expectation (R190). -/
theorem map_of_admits {α : Type} {p : Profile} {exp : List Expected} {evs : List WireEvent} {view : WireEvent → α}
    (blind : ∀ o el, view (.busy o el) = view (.busy .ready 0)) (h : List.Forall₂ (Expected.admits p) exp evs) :
    evs.map view = exp.map (view ∘ Expected.sample) := by
  induction h with
  | nil => rfl
  | @cons x e _ _ admitted _ ih =>
    rw [List.map_cons, List.map_cons, ih]
    cases x with
    | event _ => rw [admitted]; rfl
    | wait =>
      obtain ⟨o, el, rfl, -⟩ := admitted
      rw [blind]
      rfl

/-- The pins follow the outline of the events (R181, R182). -/
theorem pinsAfter_map_outline (pins : Pins) (evs : List WireEvent) :
    pinsAfter pins (evs.map WireEvent.outline) = pinsAfter pins evs := by
  have event (q : Pins) (e : WireEvent) : e.outline.pinActions.foldl Pins.after q = e.pinActions.foldl Pins.after q := by
    cases e with
    | data bs => simp only [WireEvent.outline, WireEvent.pinActions, List.foldl_append, pins_after_transfers]
    | _ => rfl
  simp only [pinsAfter, List.foldl_map, event]

theorem or_timeoutBits_or_timeout (d : BitVec 6) (evs : List WireEvent) : d ||| timeoutBits evs ||| 0x01#6 = d ||| 0x01#6 := by
  unfold timeoutBits
  split <;> simp [BitVec.or_assoc]

/-- Two expectations of the same outline, and the same one if what is sent is `known`. -/
structure SameExpected (known : Prop) (exp exp' : List Expected) : Prop where
  outline : exp'.map (WireEvent.outline ∘ Expected.sample) = exp.map (WireEvent.outline ∘ Expected.sample)
  same : known → exp' = exp

namespace SameExpected

variable {known : Prop} {a a' b b' : List Expected}

theorem of_eq (h : a' = a) : SameExpected known a a' := ⟨by rw [h], fun _ => h⟩

theorem append (h : SameExpected known a a') (k : SameExpected known b b') : SameExpected known (a ++ b) (a' ++ b') where
  outline := by rw [List.map_append, List.map_append, h.outline, k.outline]
  same hk := by rw [h.same hk, k.same hk]

/-- Bursts of one length, whose bytes are the same if they are known. -/
theorem data {bs bs' : List Byte} (length : bs'.length = bs.length) (same : known → bs' = bs) :
    SameExpected known (expectData bs) (expectData bs') where
  outline := by
    cases bs with
    | nil => rw [List.eq_nil_of_length_eq_zero length]
    | cons b bs =>
      cases bs' with
      | nil => cases length
      | cons b' bs' => rfl
  same hk := by rw [same hk]

variable {p : Profile} {R : Rect} {src src' : ByteSource}

theorem write (q : Plane) {bs bs' : List Byte} (length : bs'.length = bs.length) (same : known → bs' = bs) :
    SameExpected known (expectWrite p q R bs) (expectWrite p q R bs') := (of_eq rfl).append (data length same)

/-- The windowed writes of two sources that give the same bytes if these are known (R203, R265). -/
theorem planes (agree : known → ∀ q, ∀ cy ∈ R.cells, src' q cy.1 cy.2 = src q cy.1 cy.2) :
    SameExpected known (expectPlanes p R src) (expectPlanes p R src') := by
  have plain (q : Plane) (hk : known) : encPlain p q R src' = encPlain p q R src :=
    List.map_congr_left fun cy mem => by rw [agree hk q cy mem]
  have grey (hk : known) : encGrey p R src' = encGrey p R src :=
    List.flatMap_congr fun cy mem => by rw [agree hk .black cy mem]
  have nibble (hk : known) : encNibble p R src' = encNibble p R src :=
    List.flatMap_congr fun cy mem => by rw [agree hk .black cy mem, agree hk .accent cy mem]
  have plainWrite (q : Plane) :
      SameExpected known (expectWrite p q R (encPlain p q R src)) (expectWrite p q R (encPlain p q R src')) :=
    write q (by rw [length_encPlain, length_encPlain]) (plain q)
  unfold expectPlanes oneStream
  split
  · exact write _ (by rw [length_encNibble, length_encNibble]) nibble
  · split
    · split
      · exact write _ (by rw [length_encGrey, length_encGrey]) grey
      · exact plainWrite .black
    · exact (plainWrite .black).append (plainWrite .accent)

end SameExpected

/-! ## Two runs side by side -/

/-- `s` with the trace, DIAG and BUSY_US of `u`, and the samples and draws that `u` has left. -/
def withAnswersOf (u s : State) : State :=
  { s with wire := u.wire, diag := u.diag, lastBusyUs := u.lastBusyUs, polls := u.polls, draws := u.draws }

/-- `t` differs from `s` only in what busy answers may change (R188, R286). -/
structure SameCommit (known : Prop) (s t : State) : Prop where
  state : t = withAnswersOf t s
  diag : t.diag ||| 0x01#6 = s.diag ||| 0x01#6
  length : t.wire.length = s.wire.length
  wire : known → t.wire.map forgetAnswer = s.wire.map forgetAnswer

namespace SameCommit

variable {known : Prop} {s s' t t' : State}

theorem withPolls (known : Prop) (s : State) (ps : List Poll) : SameCommit known s { s with polls := ps } :=
  ⟨rfl, rfl, rfl, fun _ => rfl⟩

/-- What does not look at the answers. -/
theorem reads {β : Type} (h : SameCommit known s s') (r : State → β)
    (hr : ∀ u s, r (withAnswersOf u s) = r s := by intros; rfl) : r s' = r s := by
  rw [h.state]
  exact hr s' s

theorem profile (h : SameCommit known s s') : s'.profile = s.profile := h.reads State.profile

/-- An operation that neither looks at the answers nor writes them. -/
theorem update {g : State → State} (h : SameCommit known s s')
    (hg : ∀ u, Ignores g (withAnswersOf u) := by intro _ _; rfl) : SameCommit known (g s) (g s') := by
  have first : g s = withAnswersOf s (g s) := hg s s
  have second : g s' = withAnswersOf s' (g s) := (congrArg g h.state).trans (hg s' s)
  rw [first, second]
  exact ⟨rfl, h.diag, h.length, h.wire⟩

/-- Runs on the panel side with the same expectations. -/
theorem run {exp exp' : List Expected} {w n : Bool} (h : SameCommit known s s') (k : PanelRun s t exp w n)
    (k' : PanelRun s' t' exp' w n) (e : SameExpected known exp exp') : SameCommit known t t' := by
  obtain ⟨evs, c⟩ := k.observed
  obtain ⟨evs', c'⟩ := k'.observed
  have outline : evs'.map WireEvent.outline = evs.map WireEvent.outline := by
    rw [map_of_admits (fun _ _ => rfl) c.admitted, map_of_admits (fun _ _ => rfl) c'.admitted, e.outline]
  have pins : t'.pins = t.pins := by
    rw [c'.pins, c.pins, h.reads State.pins, ← pinsAfter_map_outline, outline, pinsAfter_map_outline]
  refine ⟨?_, ?_, ?_, fun hk => ?_⟩
  · calc
      t' = { s'.withPanelSide t' with pwr := w, needReset := n } := k'.writes
      _ = { s.withPanelSide t' with pwr := w, needReset := n } :=
        h.reads fun u => { u.withPanelSide t' with pwr := w, needReset := n }
      _ = withAnswersOf t' { s.withPanelSide t with pwr := w, needReset := n } := by
        rw [State.withPanelSide, State.withPanelSide, pins]
        rfl
      _ = withAnswersOf t' t := by rw [← k.writes]
  · rw [c'.diag, c.diag, or_timeoutBits_or_timeout, or_timeoutBits_or_timeout, h.diag]
  · have count : evs'.length = evs.length := by simpa using congrArg List.length outline
    rw [c'.wire, c.wire, List.length_append, List.length_append, h.length, count]
  · have shown : evs'.map forgetAnswer = evs.map forgetAnswer := by
      rw [map_of_admits (fun _ _ => rfl) c.admitted, map_of_admits (fun _ _ => rfl) c'.admitted, e.same hk]
    rw [c'.wire, c.wire, List.map_append, List.map_append, h.wire hk, shown]

/-! ### Pixels (R122 to R129) -/

theorem ink_ignores (u : State) (c : Color) (i k : Nat) : Ignores (fun s => s.ink c i k) (withAnswersOf u) := by
  have white : Ignores (fun s => s.inkWhite i k) (withAnswersOf u) :=
    .branch (fun _ => Iff.rfl) (fun _ => rfl) fun _ => rfl
  have black : Ignores (fun s => s.inkBlack i k) (withAnswersOf u) :=
    .branch (fun _ => Iff.rfl) (fun _ => rfl) fun _ => rfl
  cases c with
  | white => exact white
  | black => exact black
  | accent =>
    refine .branch (fun _ => Iff.rfl) (fun _ => rfl) fun s => ?_
    have mono : (withAnswersOf u s).profile.accentOnMono = s.profile.accentOnMono := rfl
    simp only [mono]
    cases s.profile.accentOnMono with
    | black => exact black s
    | white => exact white s
    | ignore => rfl
  | reserved => exact .skip

theorem plotPhys_ignores (u : State) (X Y : Int) (c : Color) : Ignores (fun s => s.plotPhys X Y c) (withAnswersOf u) := by
  intro s
  have site : pixelSite (withAnswersOf u s) X Y = pixelSite s X Y := rfl
  simp only [State.plotPhys_eq_elim, site]
  cases pixelSite s X Y with
  | none => rfl
  | some ik => exact ink_ignores u c ik.1 ik.2 s

theorem plotLogical_ignores (u : State) (x y : Int) (c : Color) :
    Ignores (fun s => s.plotLogical x y c) (withAnswersOf u) :=
  .branch (fun _ => Iff.rfl) .skip fun s => plotPhys_ignores u _ _ c s

theorem fillWith_ignores (u : State) (c : Color) : Ignores (fun s => s.fillWith c) (withAnswersOf u) := by
  cases c with
  | white => exact fun _ => rfl
  | black => exact .branch (fun _ => Iff.rfl) (fun _ => rfl) fun _ => rfl
  | accent =>
    refine .branch (fun _ => Iff.rfl) (fun _ => rfl) fun s => ?_
    have mono : (withAnswersOf u s).profile.accentOnMono = s.profile.accentOnMono := rfl
    simp only [mono]
    cases s.profile.accentOnMono <;> rfl
  | reserved => exact .skip

/-! ### The panel side -/

theorem emitCmd (h : SameCommit known s s') (b : Byte) : SameCommit known (s.emitCmd b) (s'.emitCmd b) := by
  have run := PanelRun.of_panelStep (n := s'.needReset) (emitCmd_panelStep s' b) rfl
  rw [h.reads State.pwr, h.reads State.needReset] at run
  exact h.run (.of_panelStep (emitCmd_panelStep s b) rfl) run (.of_eq rfl)

theorem initPanel (h : SameCommit known s s') (m : Mode) : SameCommit known (s.initPanel m) (s'.initPanel m) := by
  have run := PanelRun.initPanel s' m
  rw [h.profile, h.reads State.needReset, h.reads State.pwr] at run
  exact h.run (.initPanel s m) run (.of_eq rfl)

theorem refresh (h : SameCommit known s s') (m : Mode) : SameCommit known (s.refresh m) (s'.refresh m) := by
  have run : PanelRun s' (s'.refresh m) _ _ _ := .runSeq s' (s'.profile.seqRefresh m)
  rw [h.profile, h.reads State.needReset, h.reads State.pwr] at run
  exact h.run (.runSeq s _) run (.of_eq rfl)

theorem powerOffIfOn (h : SameCommit known s s') : SameCommit known s.powerOffIfOn s'.powerOffIfOn := by
  have pwr := h.reads State.pwr
  cases on : s.pwr with
  | false => rwa [powerOffIfOn_of_off on, powerOffIfOn_of_off (pwr.trans on)]
  | true =>
    have run := PanelRun.powerOffIfOn (pwr.trans on)
    rw [h.profile, h.reads State.needReset] at run
    exact h.run (.powerOffIfOn on) run (.of_eq rfl)

theorem clearPanel (h : SameCommit known s s') (b a : Byte) : SameCommit known (s.clearPanel b a) (s'.clearPanel b a) := by
  have run := PanelRun.clearPanel s' b a
  rw [h.profile, h.reads State.needReset, h.reads State.pwr] at run
  exact h.run (.clearPanel s b a) run (.of_eq rfl)

/-! ### Passes (R145 to R157) -/

theorem beginPass (h : SameCommit known s s') : SameCommit known s.beginPass s'.beginPass := by
  have latched : SameCommit known s.latchPass s'.latchPass :=
    h.update fun u s => by rw [latchPass_eq, latchPass_eq]; rfl
  have run := PanelRun.initPanel_startStream s'.latchPass s'.latchPass.passMode
  rw [latched.profile, latched.reads State.needReset, latched.reads State.pwr, latched.reads State.passWin,
    latched.reads State.passMode] at run
  have started := latched.run (.initPanel_startStream _ s.latchPass.passMode) run (.of_eq rfl)
  rw [State.beginPass, State.beginPass, latched.reads State.passMode]
  exact started.update (g := State.enterPass)

theorem streamPage (h : SameCommit known s s') (n : Nat) : SameCommit known (s.streamPage n) (s'.streamPage n) := by
  have run := PanelRun.streamPage s' n
  rw [h.reads State.needReset, h.reads State.pwr, h.reads (expectPage · n)] at run
  exact h.run (.streamPage s n) run (.of_eq rfl)

theorem finalRefresh (h : SameCommit known s s') : SameCommit known s.finalRefresh s'.finalRefresh := by
  unfold State.finalRefresh
  rw [h.reads State.passPartial]
  split
  · exact h.refresh _
  · exact (h.refresh _).powerOffIfOn

theorem leavePage (h : SameCommit known s s') (n : Nat) : SameCommit known (s.leavePage n) (s'.leavePage n) := by
  rcases Nat.lt_or_ge (n + 1) s.profile.pageCount with more | last
  · rw [leavePage_of_more more, leavePage_of_more (h.profile ▸ more)]
    exact h.update (g := fun u => { u.clearFB with cursor := some (n + 1), cont := true })
  · by_cases switch : s.profile.twoPass = true ∧ s.phase = .first
    · rw [leavePage_of_switch last switch,
        leavePage_of_switch (h.profile ▸ last) (by rwa [h.profile, h.reads State.phase]), State.phaseSwitch, State.phaseSwitch,
        h.reads fun u => u.profile.cmdWrite .accent]
      have switched := h.update (g := fun u => { u with phase := .second, cursor := some 0 })
      exact (switched.emitCmd _).update (g := fun u => { u.clearFB with cont := true })
    · rw [leavePage_of_end last switch, leavePage_of_end (h.profile ▸ last) (by rwa [h.profile, h.reads State.phase])]
      exact h.finalRefresh.update (g := fun u => { u with cursor := none, phase := .first, cont := false })

theorem advance (h : SameCommit known s s') : SameCommit known s.advance s'.advance := by
  have cursor := h.reads State.cursor
  cases page : s.cursor with
  | none =>
    rw [State.advance, State.advance, page, cursor.trans page]
    exact h.update (g := fun u => { u with cursor := none, cont := false })
  | some n =>
    rw [State.advance, State.advance, page, cursor.trans page]
    exact (h.streamPage n).leavePage n

end SameCommit

/-! ## Image commands (R262 to R266) -/

/-- The image command reads no free byte: no byte of its clipped rectangle depends on the draw number (R64; log 7). -/
def imageKnown (s : State) (f : ImageFlags) : Prop :=
  ∀ c Y, (c, Y) ∈ (imgWindow s.profile (operandRect s)).cells → ∀ q d d',
    ({ s with draws := d }).imgByte f q c Y = ({ s with draws := d' }).imgByte f q c Y

theorem sameExpected_expectImage {known : Prop} {s : State} {f : ImageFlags} (hk : known → imageKnown s f) (d d' : Nat) :
    SameExpected known (expectImage s d f) (expectImage s d' f) := by
  refine (SameExpected.of_eq rfl).append ?_
  split
  · exact .of_eq rfl
  · exact .planes fun known q cy mem => hk known cy.1 cy.2 mem q d' d

namespace SameCommit

variable {known : Prop} {s s' : State} {f : ImageFlags}

theorem putImage (h : SameCommit known s s') (hk : known → imageKnown s f) :
    SameCommit known (s.putImage f) (s'.putImage f) := by
  have run := PanelRun.putImage s' f
  rw [h.reads (expectImage · (s'.initPanel s'.imgMode).draws f)] at run
  exact h.run (.putImage s f) run (sameExpected_expectImage hk _ _)

theorem showImage (h : SameCommit known s s') (hk : known → imageKnown s f) :
    SameCommit known (s.showImage f) (s'.showImage f) := by
  unfold State.showImage
  rw [h.profile]
  split
  · exact (h.putImage hk).refresh _
  · exact ((h.putImage hk).refresh _).powerOffIfOn

/-- Whatever the busy answers are, an accepted command has the same effect. -/
theorem commandEffect {i : Instr} (h : SameCommit known s s')
    (hk : known → ∀ f, i = .writeImage f ∨ i = .drawImage f → imageKnown s f) :
    SameCommit known (commandEffect i s) (commandEffect i s') := by
  cases i with
  | init => exact h.update (g := State.initialise)
  | setRotation r m => exact h.update (g := fun u => { u with rot := r, mirror := m })
  | setFullWindow => exact h.update (g := fun u => { u with winMode := .full })
  | setPartialWindow => exact h.update (g := Machine.commandEffect .setPartialWindow)
  | fill c => exact h.update fun u => fillWith_ignores u c
  | setPixel c => exact h.update (g := Machine.commandEffect (.setPixel c)) fun u s => plotLogical_ignores u _ _ c s
  | setPixelPhys c => exact h.update (g := Machine.commandEffect (.setPixelPhys c)) fun u s => plotPhys_ignores u _ _ c s
  | beginFrame => exact h.beginPass
  | advancePage => exact h.advance
  | powerOff => exact h.powerOffIfOn
  | clearPanel b a => exact h.clearPanel b a
  | writeImage f => exact h.putImage fun known => hk known f (.inl rfl)
  | drawImage f => exact h.showImage fun known => hk known f (.inr rfl)

end SameCommit

/-- Settles O44: the refusal checks do not look at the samples, and an accepted command keeps the two runs alike. -/
theorem timeoutsDoNotChangeTheCommit : Obligations.TimeoutsDoNotChangeTheCommit := by
  intro s i ps
  have start := SameCommit.withPolls (∀ f, i = .writeImage f ∨ i = .drawImage f → imageKnown s f) s ps
  have checks : ({ s with polls := ps } : State).refusal i = s.refusal i := State.refusal_congr i rfl rfl rfl rfl
  rcases exec_cases i s with ⟨accepted, answer⟩ | ⟨d, refused, answer⟩
  · have same := start.commandEffect id
    refine ⟨_, _, answer, ?_, same.state, same.diag, same.length, same.wire⟩
    rw [exec_eq_perform, State.perform_of_accepted _ (checks.trans accepted)]
  · refine ⟨_, ({ s with polls := ps } : State).raise d, answer, ?_, rfl, rfl, rfl, fun _ => rfl⟩
    rw [exec_eq_perform, State.perform_of_refused _ (checks.trans refused)]

end Sys2Proof.Machine
end

section
/-!
PROOFS. The statements of 70_reset_and_hazards.md about an engine with nothing to run: an idle engine waits (R311), and until the
first INIT every other command is refused (R312).
-/

namespace Sys2Proof.Machine

/-! ## An idle engine (R311) -/

theorem engineMove_of_idle {s : State} (idle : s.busy = false) : s.engineMove = .next s := by
  simp [State.engineMove, idle]

theorem step_of_noInput {s : State} (noInput : s.inputs = []) : step s = s.engineMove := by
  simp [step, State.move, noInput]

/-- Settles O5: with or without an input lined up the step is the engine's turn, which an idle engine lets pass. -/
theorem idleEngineWaits : Obligations.IdleEngineWaits := by
  intro s idle
  refine ⟨fun noInput => ?_, fun rest lined => ?_⟩
  · rw [step_of_noInput noInput, engineMove_of_idle idle]
  · rw [step_of_input lined]
    exact engineMove_of_idle (s := { s with inputs := rest }) idle

/-! ## Before the first INIT (R312) -/

/-- Settles O8: the check for INIT refuses the command, and a refused command sets the one bit of DIAG. -/
theorem noinitUntilInit : Obligations.NoinitUntilInit := by
  intro s i blank notInit
  have refused : s.refusal i = some .noinit := State.refusal_noinit blank notInit
  rw [exec_eq_perform, State.perform_of_refused _ refused]
  rfl

end Sys2Proof.Machine
end
